-- ==== Sys2Proof/Word.lean ====
section
/-! DEFINITION. The words of the interface: bytes, bus addresses and operation words (30_encoding.md R60, 20_memory.md R43). -/

namespace Sys2Proof

/-- A data byte of the register space or the sample space (20_memory.md R43). -/
abbrev Byte := BitVec 8

/-- A 16-bit bus address (20_memory.md R40). -/
abbrev Addr := BitVec 16

/-- One operation word: 28 bits, op, rsv, addr, data (30_encoding.md R60). -/
abbrev OpWord := BitVec 28

end Sys2Proof
end

