-- ==== Sys2Proof/Config.lean ====
section
/-! DEFINITION. The parameters of 00_scope.md R3 as plain data, and the free values the spec leaves open.
The parameters stand in State (notes/assumptions/2.md), so every statement about all states holds for all their values. -/

namespace Sys2Proof

/-- REGION: selects the rows of NOISE_PERIOD and DMC_RATE (00_scope.md R3, R8). -/
inductive Region
  | ntsc
  | pal
  deriving DecidableEq, Repr

/-- SWEEP_NEGATE_P1: the complement of Pulse1's negated sweep (41_pulse.md R104). -/
inductive NegateMode
  | ones
  | twos
  deriving DecidableEq, Repr

/-- TRI_ORDER: the value order of the triangle sequence (42_triangle.md R141). -/
inductive TriOrder
  | docAscending
  | descFirst
  deriving DecidableEq, Repr

/-- TRI_ULTRASONIC: whether periods 0 and 1 clock the triangle sequencer (42_triangle.md R143). -/
inductive TriUltrasonic
  | exact
  | halt
  deriving DecidableEq, Repr

/-- TRI_HALT_OUTPUT: the output of a stopped triangle (42_triangle.md R145). -/
inductive TriHaltOutput
  | hold
  | zero
  deriving DecidableEq, Repr

/-- DMC_LIMIT: what a ±2 step that would leave [0,127] does (44_dmc.md R184). -/
inductive DmcLimit
  | skip
  | saturate
  deriving DecidableEq, Repr

/-- One step of a frame schedule: the value of `F.count` and the strobes issued there (60_exceptions.md R241). -/
structure FrameStep where
  count : Nat
  qf : Bool
  hf : Bool
  deriving DecidableEq, Repr

/-- The schedule of one frame-sequencer mode: its steps and the count at which it wraps to 0 (60_exceptions.md R241). -/
structure FrameTable where
  steps : List FrameStep
  wrap : Nat
  deriving DecidableEq, Repr

/-- FRAME_SCHEDULE: the NESDev schedule for REGION, or any other table for each mode (00_scope.md R3, 60_exceptions.md R241). -/
inductive FrameSchedule
  | nesdev
  | custom (fourStep fiveStep : FrameTable)
  deriving DecidableEq, Repr

/-- The parameters of 00_scope.md R3. MemRead and openBus are the free values below. -/
structure Config where
  region : Region
  sweepNegateP1 : NegateMode
  triOrder : TriOrder
  triUltrasonic : TriUltrasonic
  triHaltOutput : TriHaltOutput
  disabledGate : Bool
  dmcLimit : DmcLimit
  frameSchedule : FrameSchedule
  deriving DecidableEq, Repr

/-- The default of every parameter (00_scope.md R3). -/
def Config.default : Config where
  region := .ntsc
  sweepNegateP1 := .ones
  triOrder := .docAscending
  triUltrasonic := .exact
  triHaltOutput := .hold
  disabledGate := true
  dmcLimit := .skip
  frameSchedule := .nesdev

/-- FREE VALUE. The byte the MemRead oracle draws at draw number `k` for a fetch of `a`, where the host has listed no
byte (00_scope.md R7: "The core assumes nothing of that byte"). notes/assumptions/3.md -/
opaque Config.memOracle (k : Nat) (a : Addr) : Byte

/-- FREE VALUE. The value of an undriven `openBus` at draw number `k` (10_state.md R17, 92_eei_decisions.md D9).
notes/assumptions/4.md -/
opaque Config.openBusDraw (k : Nat) : Byte

/-- FREE VALUE. MIX_TO_U8, the open environment parameter that makes a byte of the mixer's output
(60_exceptions.md R245). notes/assumptions/17.md -/
opaque Config.mixToU8 (x : Rat) : Byte

end Sys2Proof
end

