-- ==== Sys2Proof/Syntax.lean ====
section
/-! DEFINITION. The operations of the core, one constructor per row of spec/opcode_table.json (30_encoding.md R61, R63, R64). -/

namespace Sys2Proof

/-- An interface operation. A write row carries the data byte `d`; the two catch-all rows carry their address `a`. -/
inductive Instr
  | wrP1Ctrl (d : Byte)
  | wrP1Sweep (d : Byte)
  | wrP1Tlo (d : Byte)
  | wrP1Thi (d : Byte)
  | wrP2Ctrl (d : Byte)
  | wrP2Sweep (d : Byte)
  | wrP2Tlo (d : Byte)
  | wrP2Thi (d : Byte)
  | wrTriLinear (d : Byte)
  | wr4009Unused (d : Byte)
  | wrTriTlo (d : Byte)
  | wrTriThi (d : Byte)
  | wrNoiseCtrl (d : Byte)
  | wr400dUnused (d : Byte)
  | wrNoisePeriod (d : Byte)
  | wrNoiseLen (d : Byte)
  | wrDmcCtrl (d : Byte)
  | wrDmcLoad (d : Byte)
  | wrDmcAddr (d : Byte)
  | wrDmcLen (d : Byte)
  | wrStatus (d : Byte)
  | wrOther (a : Addr) (d : Byte)
  | rdStatus
  | rdOther (a : Addr)
  | cycle
  | qf
  | hf
  | reset
  deriving DecidableEq, Repr

end Sys2Proof
end

