-- ==== Sys2Proof/WellFormed.lean ====
section
/-! DEFINITION. Which terms of Instr are operations: the catch-all rows apply only where no exact-address row does
(30_encoding.md R63, R64). -/

namespace Sys2Proof

/-- The 21 addresses of the register window: $4000-$4013 and $4015 (10_state.md R19). -/
def inWindow (a : Addr) : Bool :=
  (0x4000#16 ≤ a && a ≤ 0x4013#16) || a == 0x4015#16

/-- WR_OTHER names no address of the window (30_encoding.md R63), RD_OTHER names not $4015 (R64). -/
def Instr.wf : Instr → Bool
  | .wrOther a _ => !inWindow a
  | .rdOther a => a != 0x4015#16
  | .wrP1Ctrl _ | .wrP1Sweep _ | .wrP1Tlo _ | .wrP1Thi _ => true
  | .wrP2Ctrl _ | .wrP2Sweep _ | .wrP2Tlo _ | .wrP2Thi _ => true
  | .wrTriLinear _ | .wr4009Unused _ | .wrTriTlo _ | .wrTriThi _ => true
  | .wrNoiseCtrl _ | .wr400dUnused _ | .wrNoisePeriod _ | .wrNoiseLen _ => true
  | .wrDmcCtrl _ | .wrDmcLoad _ | .wrDmcAddr _ | .wrDmcLen _ => true
  | .wrStatus _ | .rdStatus | .cycle | .qf | .hf | .reset => true

end Sys2Proof
end

