-- ==== Sys2Proof/Decode.lean ====
section
/-! DEFINITION. Decoding of operation words, and the encoder (30_encoding.md R60-R64; spec/opcode_table.json). -/

namespace Sys2Proof

/-- Why the decoder refuses a word (30_encoding.md R62). -/
inductive DecodeError
  /-- op is 110 or 111. -/
  | reservedOp
  /-- rsv is 1. -/
  | reservedBit
  /-- a READ with data other than 0. -/
  | readData
  /-- a CYCLE, QF, HF or RESET with addr or data other than 0. -/
  | controlField
  deriving DecidableEq, Repr

/-- Bits 27:25 (30_encoding.md R60). -/
def opOf (w : OpWord) : BitVec 3 := w.extractLsb' 25 3

/-- Bit 24 (30_encoding.md R60). -/
def rsvOf (w : OpWord) : BitVec 1 := w.extractLsb' 24 1

/-- Bits 23:8 (30_encoding.md R60). -/
def addrOf (w : OpWord) : Addr := w.extractLsb' 8 16

/-- Bits 7:0 (30_encoding.md R60). -/
def dataOf (w : OpWord) : Byte := w.extractLsb' 0 8

/-- The operation a WRITE selects: by the exact address, else WR_OTHER (30_encoding.md R63). -/
def decodeWrite (a : Addr) (d : Byte) : Instr :=
  if a = 0x4000#16 then .wrP1Ctrl d
  else if a = 0x4001#16 then .wrP1Sweep d
  else if a = 0x4002#16 then .wrP1Tlo d
  else if a = 0x4003#16 then .wrP1Thi d
  else if a = 0x4004#16 then .wrP2Ctrl d
  else if a = 0x4005#16 then .wrP2Sweep d
  else if a = 0x4006#16 then .wrP2Tlo d
  else if a = 0x4007#16 then .wrP2Thi d
  else if a = 0x4008#16 then .wrTriLinear d
  else if a = 0x4009#16 then .wr4009Unused d
  else if a = 0x400A#16 then .wrTriTlo d
  else if a = 0x400B#16 then .wrTriThi d
  else if a = 0x400C#16 then .wrNoiseCtrl d
  else if a = 0x400D#16 then .wr400dUnused d
  else if a = 0x400E#16 then .wrNoisePeriod d
  else if a = 0x400F#16 then .wrNoiseLen d
  else if a = 0x4010#16 then .wrDmcCtrl d
  else if a = 0x4011#16 then .wrDmcLoad d
  else if a = 0x4012#16 then .wrDmcAddr d
  else if a = 0x4013#16 then .wrDmcLen d
  else if a = 0x4015#16 then .wrStatus d
  else .wrOther a d

/-- The operation a READ selects (30_encoding.md R64). -/
def decodeRead (a : Addr) : Instr :=
  if a = 0x4015#16 then .rdStatus else .rdOther a

/-- A control operation, whose addr and data must be 0 (30_encoding.md R60, R62). -/
def decodeControl (i : Instr) (w : OpWord) : Except DecodeError Instr :=
  if addrOf w = 0#16 ∧ dataOf w = 0#8 then .ok i else .error .controlField

/-- The decoder: an invalid word is refused before any row is tried (30_encoding.md R62, R63), then op selects the
format (R61, R68). -/
def decode (w : OpWord) : Except DecodeError Instr :=
  if rsvOf w = 1#1 then .error .reservedBit
  else if opOf w = 0b000#3 then .ok (decodeWrite (addrOf w) (dataOf w))
  else if opOf w = 0b001#3 then
    if dataOf w = 0#8 then .ok (decodeRead (addrOf w)) else .error .readData
  else if opOf w = 0b010#3 then decodeControl .cycle w
  else if opOf w = 0b011#3 then decodeControl .qf w
  else if opOf w = 0b100#3 then decodeControl .hf w
  else if opOf w = 0b101#3 then decodeControl .reset w
  else .error .reservedOp

/-- The word {op, 0, addr, data} (30_encoding.md R60). -/
def packWord (op : BitVec 3) (a : Addr) (d : Byte) : OpWord :=
  op ++ 0#1 ++ a ++ d

/-- The word of an operation: its op, the address of its row and its data, zero where the row has none
(30_encoding.md R60, R61, R63, R64). -/
def encode : Instr → OpWord
  | .wrP1Ctrl d => packWord 0b000#3 0x4000#16 d
  | .wrP1Sweep d => packWord 0b000#3 0x4001#16 d
  | .wrP1Tlo d => packWord 0b000#3 0x4002#16 d
  | .wrP1Thi d => packWord 0b000#3 0x4003#16 d
  | .wrP2Ctrl d => packWord 0b000#3 0x4004#16 d
  | .wrP2Sweep d => packWord 0b000#3 0x4005#16 d
  | .wrP2Tlo d => packWord 0b000#3 0x4006#16 d
  | .wrP2Thi d => packWord 0b000#3 0x4007#16 d
  | .wrTriLinear d => packWord 0b000#3 0x4008#16 d
  | .wr4009Unused d => packWord 0b000#3 0x4009#16 d
  | .wrTriTlo d => packWord 0b000#3 0x400A#16 d
  | .wrTriThi d => packWord 0b000#3 0x400B#16 d
  | .wrNoiseCtrl d => packWord 0b000#3 0x400C#16 d
  | .wr400dUnused d => packWord 0b000#3 0x400D#16 d
  | .wrNoisePeriod d => packWord 0b000#3 0x400E#16 d
  | .wrNoiseLen d => packWord 0b000#3 0x400F#16 d
  | .wrDmcCtrl d => packWord 0b000#3 0x4010#16 d
  | .wrDmcLoad d => packWord 0b000#3 0x4011#16 d
  | .wrDmcAddr d => packWord 0b000#3 0x4012#16 d
  | .wrDmcLen d => packWord 0b000#3 0x4013#16 d
  | .wrStatus d => packWord 0b000#3 0x4015#16 d
  | .wrOther a d => packWord 0b000#3 a d
  | .rdStatus => packWord 0b001#3 0x4015#16 0#8
  | .rdOther a => packWord 0b001#3 a 0#8
  | .cycle => packWord 0b010#3 0#16 0#8
  | .qf => packWord 0b011#3 0#16 0#8
  | .hf => packWord 0b100#3 0#16 0#8
  | .reset => packWord 0b101#3 0#16 0#8

/-- The operation word of a table row's bits `w`, of which the row has `nbits`: an operation word has 28 bits, so no
bit above 27 is part of it (30_encoding.md R60; notes/assumptions/18.md). -/
def tableWord (nbits w : Nat) : OpWord := BitVec.ofNat 28 (w % 2 ^ nbits)

/-- The operation the decoder reads from a table row's bits; none where it refuses. -/
def decodeTableWord (nbits w : Nat) : Option Instr :=
  (decode (tableWord nbits w)).toOption

end Sys2Proof
end

