-- ==== Sys2Proof/Machine/State.lean ====
section
/-! DEFINITION. The state of the machine as plain data: the core's fields (10_state.md R12-R16), the signals it exchanges
with its environment (R17), the environment's own fields (60_exceptions.md R240, 00_scope.md R7), the parameters
(00_scope.md R3) and the caller's pending stream. -/

namespace Sys2Proof.Machine

/-- The internal state of an envelope unit: `c.envStart`, `c.envDiv`, `c.envDecay` (10_state.md R13, R15; 40_common_units.md R86).
Its controls `constVol`, `vol` and the loop flag `halt` are register fields of the channel. -/
structure Envelope where
  start : Bool
  div : BitVec 4
  decay : BitVec 4
  deriving DecidableEq, Repr

/-- A Pulse generator, `Pn.*` (10_state.md R13). -/
structure Pulse where
  duty : BitVec 2
  halt : Bool
  constVol : Bool
  vol : BitVec 4
  swEn : Bool
  swPeriod : BitVec 3
  swNeg : Bool
  swShift : BitVec 3
  swReload : Bool
  swDiv : BitVec 3
  period : BitVec 11
  timer : BitVec 11
  seq : BitVec 3
  len : BitVec 8
  env : Envelope
  deriving DecidableEq, Repr

/-- The Triangle generator, `T.*` (10_state.md R14). -/
structure Triangle where
  ctrl : Bool
  linLoad : BitVec 7
  period : BitVec 11
  timer : BitVec 11
  seq : BitVec 5
  len : BitVec 8
  lin : BitVec 7
  linReload : Bool
  deriving DecidableEq, Repr

/-- The Noise generator, `N.*` (10_state.md R15). -/
structure Noise where
  halt : Bool
  constVol : Bool
  vol : BitVec 4
  mode : Bool
  periodIdx : BitVec 4
  timer : BitVec 11
  lfsr : BitVec 15
  len : BitVec 8
  env : Envelope
  deriving DecidableEq, Repr

/-- The DMC generator, `D.*` (10_state.md R16). -/
structure Dmc where
  irqEn : Bool
  loop : Bool
  rateIdx : BitVec 4
  level : BitVec 7
  addrReg : BitVec 8
  lenReg : BitVec 8
  timer : BitVec 9
  curAddr : BitVec 16
  bytesLeft : BitVec 12
  buffer : BitVec 8
  bufEmpty : Bool
  shift : BitVec 8
  bitsLeft : BitVec 4
  silence : Bool
  irq : Bool
  deriving DecidableEq, Repr

/-- The enable flags `en[0..4]`: Pulse1, Pulse2, Triangle, Noise, DMC (10_state.md R12). -/
structure Enables where
  p1 : Bool
  p2 : Bool
  t : Bool
  n : Bool
  d : Bool
  deriving DecidableEq, Repr

/-- ENVIRONMENT. The frame sequencer, `F.*` and `frameIrq` (60_exceptions.md R240). -/
structure FrameSequencer where
  mode : Bool
  inhibit : Bool
  count : BitVec 16
  irq : Bool
  deriving DecidableEq, Repr

/-- ENVIRONMENT. The host's sample memory: the bytes the host has listed, by rising address (00_scope.md R7,
20_memory.md R51). An unlisted address has no value here: a fetch of it draws a free value (notes/assumptions/3.md). -/
abbrev Memory := List Host.Cell

/-- What the outside world does next. Each lands between two operations (20_memory.md R45, R50). -/
inductive Event
  /-- The caller issues an operation word (30_encoding.md R60). -/
  | op (w : OpWord)
  /-- CLOCK n: n CPU cycles, each a frame-sequencer step and then a CYCLE (60_exceptions.md R243). -/
  | clock (n : Nat)
  /-- The host stores a byte of its own sample memory (20_memory.md R51). -/
  | hostWrite (a : Addr) (b : Byte)
  /-- The environment drives `openBus`, or stops driving it (10_state.md R17). -/
  | openBus (b : Option Byte)
  deriving DecidableEq, Repr

/-- The state of the machine. -/
structure State where
  /-- The parameters (00_scope.md R3); no step changes them. -/
  cfg : Config
  p1 : Pulse
  p2 : Pulse
  t : Triangle
  n : Noise
  d : Dmc
  en : Enables
  /-- APU-cycle phase (10_state.md R12). -/
  apuOdd : Bool
  /-- The result of the last READ; none is "no response" (10_state.md R17, 45_status_and_clocking.md R213). -/
  rdata : Option Byte
  /-- The one-shot strobe a $4015 read emits, until the environment takes it (10_state.md R17, 00_scope.md R6). -/
  frameIrqClear : Bool
  /-- The value the environment drives on `openBus`, if it drives one (10_state.md R17). -/
  openBus : Option Byte
  /-- ENVIRONMENT: the frame sequencer (60_exceptions.md R240). -/
  frame : FrameSequencer
  /-- ENVIRONMENT: the host's sample memory (00_scope.md R7). -/
  mem : Memory
  /-- The model's own: the number of the next free value (notes/assumptions/5.md). -/
  draws : Nat
  /-- The model's own: what the outside world does next, oldest first (notes/assumptions/1.md). -/
  stream : List Event
  deriving DecidableEq, Repr

/-- No operation of the core faults: "The core raises no synchronous exception" (60_exceptions.md R230), so there is
no reason a step could give, and nobody raises one. Safe: the type is empty. -/
inductive Fault
  deriving DecidableEq, Repr

/-- Why the machine gives an event no meaning. -/
inductive Refusal
  /-- Raised by a dispatch arm that has no meaning yet; no arm does. Safe: nothing is claimed of a refused step. -/
  | notModelled (mnemonic : String)
  /-- Raised by issuing a word the decoder refuses (30_encoding.md R62: "The model gives it no meaning and refuses it").
  Safe: it "errs toward unprovable". -/
  | invalidWord (e : DecodeError)
  deriving DecidableEq, Repr

/-- The envelope after RESET (10_state.md R13, R15, R38). -/
def Envelope.reset : Envelope where
  start := false
  div := 0
  decay := 0

/-- A Pulse generator after RESET (10_state.md R13, R38). -/
def Pulse.reset : Pulse where
  duty := 0
  halt := false
  constVol := false
  vol := 0
  swEn := false
  swPeriod := 0
  swNeg := false
  swShift := 0
  swReload := false
  swDiv := 0
  period := 0
  timer := 0
  seq := 0
  len := 0
  env := Envelope.reset

/-- The Triangle generator after RESET (10_state.md R14, R38). -/
def Triangle.reset : Triangle where
  ctrl := false
  linLoad := 0
  period := 0
  timer := 0
  seq := 0
  len := 0
  lin := 0
  linReload := false

/-- The Noise generator after RESET: the LFSR holds 1 (10_state.md R15, R38). -/
def Noise.reset : Noise where
  halt := false
  constVol := false
  vol := 0
  mode := false
  periodIdx := 0
  timer := 0
  lfsr := 1
  len := 0
  env := Envelope.reset

/-- The DMC generator after RESET (10_state.md R16, R38). -/
def Dmc.reset : Dmc where
  irqEn := false
  loop := false
  rateIdx := 0
  level := 0
  addrReg := 0
  lenReg := 0
  timer := 0
  curAddr := 0xC000
  bytesLeft := 0
  buffer := 0
  bufEmpty := true
  shift := 0
  bitsLeft := 8
  silence := true
  irq := false

/-- The enable flags after RESET (10_state.md R12, R38). -/
def Enables.reset : Enables where
  p1 := false
  p2 := false
  t := false
  n := false
  d := false

/-- ENVIRONMENT. The frame sequencer after its own reset (60_exceptions.md R240). -/
def FrameSequencer.reset : FrameSequencer where
  mode := false
  inhibit := false
  count := 0
  irq := false

/-- The machine right after reset: the core as 10_state.md R38 says, the environment's frame sequencer as
60_exceptions.md R240 says, the parameters at their defaults (00_scope.md R3), nothing listed in the host's memory and
nothing in the stream (70_reset_and_hazards.md R261; notes/assumptions/1.md to 7.md). -/
def State.reset : State where
  cfg := Config.default
  p1 := Pulse.reset
  p2 := Pulse.reset
  t := Triangle.reset
  n := Noise.reset
  d := Dmc.reset
  en := Enables.reset
  apuOdd := false
  rdata := none
  frameIrqClear := false
  openBus := none
  frame := FrameSequencer.reset
  mem := []
  draws := 0
  stream := []

end Sys2Proof.Machine
end

