-- ==== Sys2Proof/Machine/Operands.lean ====
section
/-! DEFINITION. The operand forms: fields of a written data byte and the 11-bit period assembled from two registers
(00_scope.md R4; 30_encoding.md R65; 10_state.md R20-R35). -/

namespace Sys2Proof.Machine

/-- `d[i]` (00_scope.md R4). -/
def bitOf (d : Byte) (i : Nat) : Bool := d.getLsbD i

/-- The `width` bits of `d` from bit `lo` up (00_scope.md R4). -/
def fieldOf (d : Byte) (lo width : Nat) : BitVec width := d.extractLsb' lo width

/-- The length index, data[7:3] (30_encoding.md R65). -/
def lengthIndex (d : Byte) : BitVec 5 := fieldOf d 3 5

/-- `{period[10:8], d[7:0]}`: a timer-low write (20_memory.md R43; 41_pulse.md R110). -/
def withPeriodLow (period : BitVec 11) (d : Byte) : BitVec 11 := period.extractLsb' 8 3 ++ d

/-- `{d[2:0], period[7:0]}`: a timer-high write (20_memory.md R43; 41_pulse.md R111). -/
def withPeriodHigh (period : BitVec 11) (d : Byte) : BitVec 11 := fieldOf d 0 3 ++ period.extractLsb' 0 8

end Sys2Proof.Machine
end

