-- ==== Sys2Proof/Machine/Tables.lean ====
section
/-! DEFINITION. The constant tables of the spec: LENGTH_TABLE, DUTY_TABLE, TRI_SEQ, NOISE_PERIOD, DMC_RATE and the frame
schedules. -/

namespace Sys2Proof.Machine

/-- LENGTH_TABLE (40_common_units.md R81). -/
def lengthTable : List Nat :=
  [10, 254, 20, 2, 40, 4, 80, 6] ++ [160, 8, 60, 10, 14, 12, 26, 14] ++
  [12, 16, 24, 18, 48, 20, 96, 22] ++ [192, 24, 72, 26, 16, 28, 32, 30]

/-- LENGTH_TABLE[i] as a counter value (40_common_units.md R81). -/
def lengthOf (i : BitVec 5) : BitVec 8 := BitVec.ofNat 8 (lengthTable.getD i.toNat 0)

/-- The rows of DUTY_TABLE (41_pulse.md R101). -/
def dutyTable : List (List Nat) :=
  [[0, 1, 0, 0, 0, 0, 0, 0], [0, 1, 1, 0, 0, 0, 0, 0], [0, 1, 1, 1, 1, 0, 0, 0], [1, 0, 0, 1, 1, 1, 1, 1]]

/-- DUTY_TABLE[duty][seq] (41_pulse.md R101). -/
def dutyValue (duty : BitVec 2) (seq : BitVec 3) : Nat := (dutyTable.getD duty.toNat []).getD seq.toNat 0

/-- TRI_SEQ[k] under TRI_ORDER (42_triangle.md R141). -/
def triValue (order : TriOrder) (k : BitVec 5) : Nat :=
  match order with
  | .docAscending => if k.toNat ≤ 15 then k.toNat else 31 - k.toNat
  | .descFirst => if k.toNat ≤ 15 then 15 - k.toNat else k.toNat - 16

/-- NOISE_PERIOD, the effective timer period in CPU cycles (43_noise.md R161). -/
def noisePeriodTable : Region → List Nat
  | .ntsc => [4, 8, 16, 32, 64, 96, 128, 160] ++ [202, 254, 380, 508, 762, 1016, 2034, 4068]
  | .pal => [4, 8, 14, 30, 60, 88, 118, 148] ++ [188, 236, 354, 472, 708, 944, 1890, 3778]

/-- NOISE_PERIOD[p] (43_noise.md R161). -/
def noisePeriod (r : Region) (p : BitVec 4) : Nat := (noisePeriodTable r).getD p.toNat 0

/-- DMC_RATE, the output-unit period in CPU cycles (44_dmc.md R181). -/
def dmcRateTable : Region → List Nat
  | .ntsc => [428, 380, 340, 320, 286, 254, 226, 214] ++ [190, 160, 142, 128, 106, 84, 72, 54]
  | .pal => [398, 354, 316, 298, 276, 236, 210, 198] ++ [176, 148, 132, 118, 98, 78, 66, 50]

/-- DMC_RATE[r] (44_dmc.md R181). -/
def dmcRate (r : Region) (i : BitVec 4) : Nat := (dmcRateTable r).getD i.toNat 0

/-- ENVIRONMENT. The NESDev schedule of the 4-step mode (60_exceptions.md R241). -/
def nesdevFourStep : Region → FrameTable
  | .ntsc => ⟨[⟨7457, true, false⟩, ⟨14913, true, true⟩, ⟨22371, true, false⟩, ⟨29829, true, true⟩], 29830⟩
  | .pal => ⟨[⟨8313, true, false⟩, ⟨16627, true, true⟩, ⟨24939, true, false⟩, ⟨33253, true, true⟩], 33254⟩

/-- ENVIRONMENT. The NESDev schedule of the 5-step mode; its fourth step issues nothing (60_exceptions.md R241). -/
def nesdevFiveStep : Region → FrameTable
  | .ntsc => ⟨[⟨7457, true, false⟩, ⟨14913, true, true⟩, ⟨22371, true, false⟩, ⟨29829, false, false⟩,
      ⟨37281, true, true⟩], 37282⟩
  | .pal => ⟨[⟨8313, true, false⟩, ⟨16627, true, true⟩, ⟨24939, true, false⟩, ⟨33253, false, false⟩,
      ⟨41565, true, true⟩], 41566⟩

/-- ENVIRONMENT. The counts at which 4-step mode sets the frame IRQ (60_exceptions.md R242). -/
def irqWindow : Region → List Nat
  | .ntsc => [29828, 29829, 29830]
  | .pal => [33252, 33253, 33254]

end Sys2Proof.Machine
end

