-- ==== Sys2Proof/Machine/Ops.lean ====
section
/-! DEFINITION. The shared operations: the divider, the length counter, the envelope, the sample memory, the MemRead
oracle and the openBus input. The core takes no exception (60_exceptions.md R230, R235, R236): there is no entry and no
return to model; its one interrupt output is `irqLine` in Flags.lean. -/

namespace Sys2Proof.Machine

/-- Replaces Pulse1. -/
def State.setP1 (s : State) (p : Pulse) : State := { s with p1 := p }

/-- Replaces Pulse2. -/
def State.setP2 (s : State) (p : Pulse) : State := { s with p2 := p }

/-- Replaces the Triangle. -/
def State.setT (s : State) (t : Triangle) : State := { s with t := t }

/-- Replaces the Noise generator. -/
def State.setN (s : State) (n : Noise) : State := { s with n := n }

/-- Replaces the DMC. -/
def State.setD (s : State) (d : Dmc) : State := { s with d := d }

/-- One clock of a divider: the new counter, and whether it fired (40_common_units.md R80). -/
def clockDivider {w : Nat} (ctr p : BitVec w) : BitVec w × Bool :=
  if ctr = 0#w then (p, true) else (ctr - 1#w, false)

/-- The length counter after a length-loading write of `d` (40_common_units.md R82). -/
def lengthLoad (enabled : Bool) (d : Byte) (len : BitVec 8) : BitVec 8 :=
  if enabled then lengthOf (lengthIndex d) else len

/-- The length counter after an HF (40_common_units.md R83). -/
def lengthClock (halt : Bool) (len : BitVec 8) : BitVec 8 :=
  if len ≠ 0#8 ∧ halt = false then len - 1#8 else len

/-- The length counter after a $4015 write that gives its channel the enable bit `on` (40_common_units.md R84). -/
def lengthEnable (on : Bool) (len : BitVec 8) : BitVec 8 := if on then len else 0#8

/-- The envelope after a QF (40_common_units.md R87). -/
def Envelope.clock (vol : BitVec 4) (loop : Bool) (e : Envelope) : Envelope :=
  if e.start then
    { start := false, decay := 15#4, div := vol }
  else if e.div = 0#4 then
    { e with
      div := vol
      decay := if e.decay ≠ 0#4 then e.decay - 1#4 else if loop then 15#4 else e.decay }
  else
    { e with div := e.div - 1#4 }

/-- The byte the host has listed at address `a`, if any (00_scope.md R7). -/
def Memory.read : Memory → Nat → Option Byte
  | [], _ => none
  | (b, v) :: m, a => if a = b then some v else Memory.read m a

/-- Lists byte `v` at address `a`, keeping the addresses rising and without repeats. -/
def Memory.write : Memory → Nat → Byte → Memory
  | [], a, v => [(a, v)]
  | (b, u) :: m, a, v =>
    if a < b then (a, v) :: (b, u) :: m
    else if a = b then (a, v) :: m
    else (b, u) :: Memory.write m a v

/-- All addresses of `m` lie at or above `lo` and below 2^16, strictly rising. -/
def Memory.wfFrom : Nat → Memory → Bool
  | _, [] => true
  | lo, (b, _) :: m => decide (lo ≤ b) && decide (b < 65536) && Memory.wfFrom (b + 1) m

/-- The canonical form of the sample memory: strictly rising 16-bit addresses. An unlisted address has no value, so no
entry can equal it. -/
def Memory.wf (m : Memory) : Bool := Memory.wfFrom 0 m

/-- The host's answer to a fetch of `a`: the byte it has listed there, else a draw of the oracle
(00_scope.md R7; 92_eei_decisions.md D27). -/
def memAnswer (s : State) (a : Addr) : Byte := (s.mem.read a.toNat).getD (Config.memOracle s.draws a)

/-- The counter of draws after a fetch of `a`. -/
def drawsAfterFetch (s : State) (a : Addr) : Nat :=
  if (s.mem.read a.toNat).isSome then s.draws else s.draws + 1

/-- The value of `openBus` at a READ: what the environment drives, else a draw (10_state.md R17; 92_eei_decisions.md D9). -/
def openBusValue (s : State) : Byte := s.openBus.getD (Config.openBusDraw s.draws)

/-- The counter of draws after a READ of `openBus`. -/
def drawsAfterOpenBus (s : State) : Nat := if s.openBus.isSome then s.draws else s.draws + 1

end Sys2Proof.Machine
end

