-- ==== Sys2Proof/Machine/Flags.lean ====
section
/-! DEFINITION. The combinational values and flags, pure functions of the state, never stored (10_state.md R18, R37):
sweep target and mute, volume, the status byte and the interrupt line. -/

namespace Sys2Proof.Machine

/-- Which Pulse generator: the two differ only in the negated sweep (41_pulse.md R104). -/
inductive PulseId
  | one
  | two
  deriving DecidableEq, Repr

/-- `change = period >> shift` (41_pulse.md R104). -/
def Pulse.change (p : Pulse) : Nat := p.period.toNat >>> p.swShift.toNat

/-- The sum before the clamp, in the integers (41_pulse.md R104). -/
def Pulse.rawTarget (mode : NegateMode) (n : PulseId) (p : Pulse) : Int :=
  if p.swNeg = false then (p.period.toNat : Int) + p.change
  else if n = .one ∧ mode = .ones then (p.period.toNat : Int) - p.change - 1
  else (p.period.toNat : Int) - p.change

/-- `Pn.target = max(t, 0)` (41_pulse.md R104). -/
def Pulse.target (mode : NegateMode) (n : PulseId) (p : Pulse) : Nat := (p.rawTarget mode n).toNat

/-- `Pn.muted` (41_pulse.md R105). -/
def Pulse.muted (mode : NegateMode) (n : PulseId) (p : Pulse) : Bool :=
  decide (p.period.toNat < 8) || decide (p.target mode n > 0x7FF)

/-- `c.volume` of an envelope channel (40_common_units.md R88). -/
def envelopeVolume (constVol : Bool) (vol : BitVec 4) (e : Envelope) : BitVec 4 :=
  if constVol then vol else e.decay

/-- `Pn.volume` (40_common_units.md R88). -/
def Pulse.volume (p : Pulse) : BitVec 4 := envelopeVolume p.constVol p.vol p.env

/-- `N.volume` (40_common_units.md R88). -/
def Noise.volume (n : Noise) : BitVec 4 := envelopeVolume n.constVol n.vol n.env

/-- `ultrasonic_halt()` (42_triangle.md R143). -/
def Triangle.ultrasonicHalt (mode : TriUltrasonic) (t : Triangle) : Bool :=
  decide (mode = .halt) && decide (t.period.toNat < 2)

/-- Whether the DMC is active: `D.bytesLeft > 0` (44_dmc.md R194). -/
def Dmc.active (d : Dmc) : Bool := decide (d.bytesLeft ≠ 0#12)

/-- The $4015 status byte, bit 7 down to bit 0 (10_state.md R36; 45_status_and_clocking.md R211). -/
def statusByte (s : State) (frameIrq : Bool) (openBus : Byte) : Byte :=
  BitVec.ofBool s.d.irq ++ BitVec.ofBool frameIrq ++ BitVec.ofBool (bitOf openBus 5) ++ BitVec.ofBool s.d.active ++
    BitVec.ofBool (decide (s.n.len ≠ 0#8)) ++ BitVec.ofBool (decide (s.t.len ≠ 0#8)) ++
    BitVec.ofBool (decide (s.p2.len ≠ 0#8)) ++ BitVec.ofBool (decide (s.p1.len ≠ 0#8))

/-- `IRQ = D.irq`, the core's interrupt output, a level (60_exceptions.md R231). -/
def irqLine (s : State) : Bool := s.d.irq

/-- ENVIRONMENT. The line a host CPU sees: the wired OR of IRQ and frameIrq (60_exceptions.md R233). -/
def cpuIrq (s : State) : Bool := irqLine s || s.frame.irq

end Sys2Proof.Machine
end

