-- ==== Sys2Proof/Machine/Dmc.lean ====
section
/-! DEFINITION. The DMC: rate divider, output unit, memory reader and the writes of $4010-$4013 (44_dmc.md R180-R194). -/

namespace Sys2Proof.Machine

/-- The restart procedure (44_dmc.md R182). -/
def Dmc.restart (d : Dmc) : Dmc :=
  { d with
    curAddr := 0xC000#16 + (d.addrReg.setWidth 16 <<< 6)
    bytesLeft := (d.lenReg.setWidth 12 <<< 4) + 1#12 }

/-- The level after the delta step of one output clock (44_dmc.md R184). -/
def Dmc.deltaLevel (limit : DmcLimit) (d : Dmc) : BitVec 7 :=
  if d.silence then d.level
  else if d.shift.getLsbD 0 then
    if d.level ≤ 125#7 then d.level + 2#7 else if limit = .saturate then 127#7 else d.level
  else
    if 2#7 ≤ d.level then d.level - 2#7 else if limit = .saturate then 0#7 else d.level

/-- The shift and the output cycle of one output clock (44_dmc.md R185). -/
def Dmc.shiftClock (d : Dmc) : Dmc :=
  if d.bitsLeft - 1#4 ≠ 0#4 then
    { d with shift := d.shift >>> 1, bitsLeft := d.bitsLeft - 1#4 }
  else if d.bufEmpty then
    { d with shift := d.shift >>> 1, bitsLeft := 8#4, silence := true }
  else
    { d with shift := d.buffer, bitsLeft := 8#4, silence := false, bufEmpty := true }

/-- One output clock: the delta step, then the shift (44_dmc.md R184, R185). -/
def Dmc.outputClock (limit : DmcLimit) (d : Dmc) : Dmc := Dmc.shiftClock { d with level := d.deltaLevel limit }

/-- The timer's reload value in CPU cycles, DMC_RATE[rateIdx] - 1 (44_dmc.md R183). -/
def dmcReload (r : Region) (i : BitVec 4) : BitVec 9 := BitVec.ofNat 9 (dmcRate r i - 1)

/-- The timer clock of a CYCLE (44_dmc.md R183). -/
def Dmc.timerClock (r : Region) (limit : DmcLimit) (d : Dmc) : Dmc :=
  if (clockDivider d.timer (dmcReload r d.rateIdx)).2 then
    Dmc.outputClock limit { d with timer := (clockDivider d.timer (dmcReload r d.rateIdx)).1 }
  else { d with timer := (clockDivider d.timer (dmcReload r d.rateIdx)).1 }

/-- The address counter: $FFFF wraps to $8000 (44_dmc.md R187). -/
def advanceAddress (a : Addr) : Addr := if a = 0xFFFF#16 then 0x8000#16 else a + 1#16

/-- The end-of-sample check after a fetch (44_dmc.md R188). -/
def Dmc.endOfSample (d : Dmc) : Dmc :=
  if d.bytesLeft = 0#12 then
    if d.loop then d.restart else if d.irqEn then { d with irq := true } else d
  else d

/-- Whether the reader fetches at the end of a CYCLE (44_dmc.md R186). -/
def Dmc.wantsFetch (d : Dmc) : Bool := d.bufEmpty && decide (d.bytesLeft ≠ 0#12)

/-- The DMC after a fetch that answered `b` (44_dmc.md R186). -/
def Dmc.fetched (b : Byte) (d : Dmc) : Dmc :=
  Dmc.endOfSample
    { d with
      buffer := b
      bufEmpty := false
      curAddr := advanceAddress d.curAddr
      bytesLeft := d.bytesLeft - 1#12 }

/-- The memory reader at the end of a CYCLE: at most one MemRead, at `D.curAddr` (44_dmc.md R186; 20_memory.md R47). -/
def dmcReader (s : State) : State :=
  if s.d.wantsFetch then
    { s with d := s.d.fetched (memAnswer s s.d.curAddr), draws := drawsAfterFetch s s.d.curAddr }
  else s

/-- `raw.D` (44_dmc.md R189). -/
def Dmc.raw (d : Dmc) : Nat := d.level.toNat

/-- A write of the flags/rate register; data[5:4] ignored (10_state.md R31; 44_dmc.md R190). -/
def Dmc.writeCtrl (b : Byte) (d : Dmc) : Dmc :=
  { d with
    irqEn := bitOf b 7, loop := bitOf b 6, rateIdx := fieldOf b 0 4
    irq := if bitOf b 7 then d.irq else false }

/-- A write of the direct-load register; data[7] ignored (10_state.md R32; 44_dmc.md R191). -/
def Dmc.writeLoad (b : Byte) (d : Dmc) : Dmc := { d with level := fieldOf b 0 7 }

/-- The DMC after a $4015 write whose bit 4 is `on` (45_status_and_clocking.md R210). -/
def Dmc.writeEnable (on : Bool) (d : Dmc) : Dmc :=
  { (if on then if d.bytesLeft = 0#12 then d.restart else d else { d with bytesLeft := 0#12 }) with irq := false }

/-- WR_DMC_CTRL (44_dmc.md R190). -/
def execWrDmcCtrl (d : Byte) (s : State) : Host.Outcome State Fault Refusal := .next (s.setD (s.d.writeCtrl d))

/-- WR_DMC_LOAD (44_dmc.md R191). -/
def execWrDmcLoad (d : Byte) (s : State) : Host.Outcome State Fault Refusal := .next (s.setD (s.d.writeLoad d))

/-- WR_DMC_ADDR (44_dmc.md R192). -/
def execWrDmcAddr (d : Byte) (s : State) : Host.Outcome State Fault Refusal := .next (s.setD { s.d with addrReg := d })

/-- WR_DMC_LEN (44_dmc.md R193). -/
def execWrDmcLen (d : Byte) (s : State) : Host.Outcome State Fault Refusal := .next (s.setD { s.d with lenReg := d })

end Sys2Proof.Machine
end

