-- ==== Sys2Proof/Machine/Noise.lean ====
section
/-! DEFINITION. The Noise generator: timer, LFSR, raw output and the writes of $400C-$400F (43_noise.md R160-R168). -/

namespace Sys2Proof.Machine

/-- One LFSR clock: shift right by 1, the feedback enters bit 14 (43_noise.md R163). -/
def lfsrNext (mode : Bool) (v : BitVec 15) : BitVec 15 :=
  BitVec.ofBool (v.getLsbD 0 ^^ (if mode then v.getLsbD 6 else v.getLsbD 1)) ++ v.extractLsb' 1 14

/-- The timer's reload value in APU cycles, NOISE_PERIOD[periodIdx] / 2 - 1 (43_noise.md R162). -/
def noiseReload (r : Region) (p : BitVec 4) : BitVec 11 := BitVec.ofNat 11 (noisePeriod r p / 2 - 1)

/-- The timer clock of an APU cycle (43_noise.md R162). -/
def Noise.timerClock (r : Region) (n : Noise) : Noise :=
  { n with
    timer := (clockDivider n.timer (noiseReload r n.periodIdx)).1
    lfsr := if (clockDivider n.timer (noiseReload r n.periodIdx)).2 then lfsrNext n.mode n.lfsr else n.lfsr }

/-- The envelope clock of a QF (40_common_units.md R87). -/
def Noise.envelopeClock (n : Noise) : Noise := { n with env := n.env.clock n.vol n.halt }

/-- The length-counter clock of an HF (40_common_units.md R83). -/
def Noise.lengthClock (n : Noise) : Noise := { n with len := Machine.lengthClock n.halt n.len }

/-- `raw.N` (43_noise.md R164). -/
def Noise.raw (n : Noise) : Nat := if n.len ≠ 0#8 ∧ n.lfsr.getLsbD 0 = false then n.volume.toNat else 0

/-- A write of the envelope register; data[7:6] ignored (10_state.md R28; 43_noise.md R165). -/
def Noise.writeCtrl (d : Byte) (n : Noise) : Noise :=
  { n with halt := bitOf d 5, constVol := bitOf d 4, vol := fieldOf d 0 4 }

/-- A write of the mode/period register; data[6:4] ignored (10_state.md R29; 43_noise.md R167). -/
def Noise.writePeriod (d : Byte) (n : Noise) : Noise := { n with mode := bitOf d 7, periodIdx := fieldOf d 0 4 }

/-- A write of the length register; data[2:0] ignored (10_state.md R30; 43_noise.md R168). -/
def Noise.writeLength (enabled : Bool) (d : Byte) (n : Noise) : Noise :=
  { n with len := lengthLoad enabled d n.len, env := { n.env with start := true } }

/-- WR_NOISE_CTRL (43_noise.md R165). -/
def execWrNoiseCtrl (d : Byte) (s : State) : Host.Outcome State Fault Refusal := .next (s.setN (s.n.writeCtrl d))

/-- WR_400D_UNUSED: "No state changes" (43_noise.md R166). -/
def execWr400dUnused (_d : Byte) (s : State) : Host.Outcome State Fault Refusal := .next s

/-- WR_NOISE_PERIOD (43_noise.md R167). -/
def execWrNoisePeriod (d : Byte) (s : State) : Host.Outcome State Fault Refusal := .next (s.setN (s.n.writePeriod d))

/-- WR_NOISE_LEN (43_noise.md R168). -/
def execWrNoiseLen (d : Byte) (s : State) : Host.Outcome State Fault Refusal :=
  .next (s.setN (s.n.writeLength s.en.n d))

end Sys2Proof.Machine
end

