-- ==== Sys2Proof/Machine/Pulse.lean ====
section
/-! DEFINITION. The Pulse generators: timer, sequencer, sweep, raw output and the writes of $4000-$4007
(41_pulse.md R100-R115). -/

namespace Sys2Proof.Machine

/-- The sequencer counts down, 0 to 7 (41_pulse.md R103). -/
def Pulse.sequencerStep (p : Pulse) : Pulse := { p with seq := p.seq - 1#3 }

/-- The timer clock of an APU cycle (41_pulse.md R102). -/
def Pulse.timerClock (p : Pulse) : Pulse :=
  if (clockDivider p.timer p.period).2 then
    Pulse.sequencerStep { p with timer := (clockDivider p.timer p.period).1 }
  else { p with timer := (clockDivider p.timer p.period).1 }

/-- The envelope clock of a QF (40_common_units.md R87). -/
def Pulse.envelopeClock (p : Pulse) : Pulse := { p with env := p.env.clock p.vol p.halt }

/-- The length-counter clock of an HF (40_common_units.md R83). -/
def Pulse.lengthClock (p : Pulse) : Pulse := { p with len := Machine.lengthClock p.halt p.len }

/-- Whether an HF writes the target into the period (41_pulse.md R106, first `if`). -/
def Pulse.sweepFires (mode : NegateMode) (n : PulseId) (p : Pulse) : Bool :=
  decide (p.swDiv = 0#3) && p.swEn && decide (p.swShift ≠ 0#3) && !p.muted mode n

/-- The sweep clock of an HF; both tests read `swDiv` as it was (41_pulse.md R106). -/
def Pulse.sweepClock (mode : NegateMode) (n : PulseId) (p : Pulse) : Pulse :=
  { p with
    period := if p.sweepFires mode n then BitVec.ofNat 11 (p.target mode n) else p.period
    swDiv := if p.swDiv = 0#3 ∨ p.swReload = true then p.swPeriod else p.swDiv - 1#3
    swReload := if p.swDiv = 0#3 ∨ p.swReload = true then false else p.swReload }

/-- `raw.Pn` (41_pulse.md R107). -/
def Pulse.raw (mode : NegateMode) (n : PulseId) (p : Pulse) : Nat :=
  if p.len ≠ 0#8 ∧ p.muted mode n = false ∧ dutyValue p.duty p.seq = 1 then p.volume.toNat else 0

/-- A write of the duty/envelope register (10_state.md R20; 41_pulse.md R108, R112). -/
def Pulse.writeCtrl (d : Byte) (p : Pulse) : Pulse :=
  { p with duty := fieldOf d 6 2, halt := bitOf d 5, constVol := bitOf d 4, vol := fieldOf d 0 4 }

/-- A write of the sweep register (10_state.md R21; 41_pulse.md R109, R113). -/
def Pulse.writeSweep (d : Byte) (p : Pulse) : Pulse :=
  { p with
    swEn := bitOf d 7, swPeriod := fieldOf d 4 3, swNeg := bitOf d 3, swShift := fieldOf d 0 3, swReload := true }

/-- A write of the timer-low register (10_state.md R22; 41_pulse.md R110, R114). -/
def Pulse.writeTimerLow (d : Byte) (p : Pulse) : Pulse := { p with period := withPeriodLow p.period d }

/-- A write of the length/timer-high register, the channel's enable flag being `enabled`
(10_state.md R23; 41_pulse.md R111, R115). -/
def Pulse.writeTimerHigh (enabled : Bool) (d : Byte) (p : Pulse) : Pulse :=
  { p with
    period := withPeriodHigh p.period d
    len := lengthLoad enabled d p.len
    seq := 0#3
    env := { p.env with start := true } }

/-- WR_P1_CTRL (41_pulse.md R108). -/
def execWrP1Ctrl (d : Byte) (s : State) : Host.Outcome State Fault Refusal := .next (s.setP1 (s.p1.writeCtrl d))

/-- WR_P1_SWEEP (41_pulse.md R109). -/
def execWrP1Sweep (d : Byte) (s : State) : Host.Outcome State Fault Refusal := .next (s.setP1 (s.p1.writeSweep d))

/-- WR_P1_TLO (41_pulse.md R110). -/
def execWrP1Tlo (d : Byte) (s : State) : Host.Outcome State Fault Refusal := .next (s.setP1 (s.p1.writeTimerLow d))

/-- WR_P1_THI (41_pulse.md R111). -/
def execWrP1Thi (d : Byte) (s : State) : Host.Outcome State Fault Refusal :=
  .next (s.setP1 (s.p1.writeTimerHigh s.en.p1 d))

/-- WR_P2_CTRL (41_pulse.md R112). -/
def execWrP2Ctrl (d : Byte) (s : State) : Host.Outcome State Fault Refusal := .next (s.setP2 (s.p2.writeCtrl d))

/-- WR_P2_SWEEP (41_pulse.md R113). -/
def execWrP2Sweep (d : Byte) (s : State) : Host.Outcome State Fault Refusal := .next (s.setP2 (s.p2.writeSweep d))

/-- WR_P2_TLO (41_pulse.md R114). -/
def execWrP2Tlo (d : Byte) (s : State) : Host.Outcome State Fault Refusal := .next (s.setP2 (s.p2.writeTimerLow d))

/-- WR_P2_THI (41_pulse.md R115). -/
def execWrP2Thi (d : Byte) (s : State) : Host.Outcome State Fault Refusal :=
  .next (s.setP2 (s.p2.writeTimerHigh s.en.p2 d))

end Sys2Proof.Machine
end

