-- ==== Sys2Proof/Machine/Triangle.lean ====
section
/-! DEFINITION. The Triangle generator: timer and sequencer, linear counter, raw output and the writes of $4008-$400B
(42_triangle.md R140-R149). -/

namespace Sys2Proof.Machine

/-- The timer and sequencer clock of a CYCLE (42_triangle.md R142). -/
def Triangle.timerClock (mode : TriUltrasonic) (t : Triangle) : Triangle :=
  { t with
    timer := (clockDivider t.timer t.period).1
    seq :=
      if (clockDivider t.timer t.period).2 = true ∧ t.lin ≠ 0#7 ∧ t.len ≠ 0#8 ∧ t.ultrasonicHalt mode = false then
        t.seq + 1#5
      else t.seq }

/-- The linear-counter clock of a QF (42_triangle.md R144). -/
def Triangle.linearClock (t : Triangle) : Triangle :=
  { t with
    lin := if t.linReload then t.linLoad else if t.lin ≠ 0#7 then t.lin - 1#7 else t.lin
    linReload := if t.ctrl then t.linReload else false }

/-- The length-counter clock of an HF; the halt flag is `T.ctrl` (40_common_units.md R83; 42_triangle.md R140). -/
def Triangle.lengthClock (t : Triangle) : Triangle := { t with len := Machine.lengthClock t.ctrl t.len }

/-- `raw.T` (42_triangle.md R145). -/
def Triangle.raw (order : TriOrder) (halted : TriHaltOutput) (t : Triangle) : Nat :=
  if halted = .zero ∧ (t.lin = 0#7 ∨ t.len = 0#8) then 0 else triValue order t.seq

/-- A write of the linear-counter register (10_state.md R24; 42_triangle.md R146). -/
def Triangle.writeLinear (d : Byte) (t : Triangle) : Triangle :=
  { t with ctrl := bitOf d 7, linLoad := fieldOf d 0 7 }

/-- A write of the timer-low register (10_state.md R26; 42_triangle.md R147). -/
def Triangle.writeTimerLow (d : Byte) (t : Triangle) : Triangle := { t with period := withPeriodLow t.period d }

/-- A write of the length/timer-high register (10_state.md R27; 42_triangle.md R148). -/
def Triangle.writeTimerHigh (enabled : Bool) (d : Byte) (t : Triangle) : Triangle :=
  { t with
    period := withPeriodHigh t.period d
    len := lengthLoad enabled d t.len
    linReload := true }

/-- WR_TRI_LINEAR (42_triangle.md R146). -/
def execWrTriLinear (d : Byte) (s : State) : Host.Outcome State Fault Refusal := .next (s.setT (s.t.writeLinear d))

/-- WR_4009_UNUSED: "No state changes" (42_triangle.md R149). -/
def execWr4009Unused (_d : Byte) (s : State) : Host.Outcome State Fault Refusal := .next s

/-- WR_TRI_TLO (42_triangle.md R147). -/
def execWrTriTlo (d : Byte) (s : State) : Host.Outcome State Fault Refusal := .next (s.setT (s.t.writeTimerLow d))

/-- WR_TRI_THI (42_triangle.md R148). -/
def execWrTriThi (d : Byte) (s : State) : Host.Outcome State Fault Refusal :=
  .next (s.setT (s.t.writeTimerHigh s.en.t d))

end Sys2Proof.Machine
end

