-- ==== Sys2Proof/Machine/Clocking.lean ====
section
/-! DEFINITION. The clocking operations and RESET (45_status_and_clocking.md R214-R217). -/

namespace Sys2Proof.Machine

/-- The Triangle timer, every CPU cycle (45_status_and_clocking.md R214). -/
def triangleTimer (s : State) : State := s.setT (s.t.timerClock s.cfg.triUltrasonic)

/-- Both Pulse timers and the Noise timer, on a CYCLE that finds `apuOdd` = 1 (45_status_and_clocking.md R214). -/
def apuTimers (s : State) : State :=
  if s.apuOdd then
    { s with p1 := s.p1.timerClock, p2 := s.p2.timerClock, n := s.n.timerClock s.cfg.region }
  else s

/-- The phase toggle (45_status_and_clocking.md R214). -/
def toggleApu (s : State) : State := { s with apuOdd := !s.apuOdd }

/-- The DMC timer, every CPU cycle (45_status_and_clocking.md R214). -/
def dmcTimer (s : State) : State := s.setD (s.d.timerClock s.cfg.region s.cfg.dmcLimit)

/-- The state after one CPU cycle, in the order of 45_status_and_clocking.md R214. -/
def cycleState (s : State) : State := dmcReader (dmcTimer (toggleApu (apuTimers (triangleTimer s))))

/-- CYCLE (45_status_and_clocking.md R214). -/
def execCycle (s : State) : Host.Outcome State Fault Refusal := .next (cycleState s)

/-- QF (45_status_and_clocking.md R215; 40_common_units.md R89). -/
def execQf (s : State) : Host.Outcome State Fault Refusal :=
  .next
    { s with
      p1 := s.p1.envelopeClock
      p2 := s.p2.envelopeClock
      n := s.n.envelopeClock
      t := s.t.linearClock }

/-- HF: the length counters, then the sweeps (45_status_and_clocking.md R216; 40_common_units.md R89). -/
def execHf (s : State) : Host.Outcome State Fault Refusal :=
  .next
    { s with
      p1 := (s.p1.lengthClock).sweepClock s.cfg.sweepNegateP1 .one
      p2 := (s.p2.lengthClock).sweepClock s.cfg.sweepNegateP1 .two
      t := s.t.lengthClock
      n := s.n.lengthClock }

/-- RESET: every field of 10_state.md R12-R16 takes its reset value; the environment is not touched
(45_status_and_clocking.md R217). -/
def execReset (s : State) : Host.Outcome State Fault Refusal :=
  .next
    { s with
      p1 := Pulse.reset
      p2 := Pulse.reset
      t := Triangle.reset
      n := Noise.reset
      d := Dmc.reset
      en := Enables.reset
      apuOdd := false }

end Sys2Proof.Machine
end

