-- ==== Sys2Proof/Machine/Status.lean ====
section
/-! DEFINITION. The status/enable register and the accesses outside the window (45_status_and_clocking.md R210-R213). -/

namespace Sys2Proof.Machine

/-- The enable flags a $4015 write gives (10_state.md R35; 45_status_and_clocking.md R210). -/
def enablesOf (d : Byte) : Enables :=
  { p1 := bitOf d 0, p2 := bitOf d 1, t := bitOf d 2, n := bitOf d 3, d := bitOf d 4 }

/-- WR_STATUS (45_status_and_clocking.md R210). -/
def execWrStatus (d : Byte) (s : State) : Host.Outcome State Fault Refusal :=
  .next
    { s with
      en := enablesOf d
      p1 := { s.p1 with len := lengthEnable (bitOf d 0) s.p1.len }
      p2 := { s.p2 with len := lengthEnable (bitOf d 1) s.p2.len }
      t := { s.t with len := lengthEnable (bitOf d 2) s.t.len }
      n := { s.n with len := lengthEnable (bitOf d 3) s.n.len }
      d := s.d.writeEnable (bitOf d 4) }

/-- RD_STATUS: answers the status byte and emits `frameIrqClear`; no core state changes
(45_status_and_clocking.md R211). -/
def execRdStatus (s : State) : Host.Outcome State Fault Refusal :=
  .next
    { s with
      rdata := some (statusByte s s.frame.irq (openBusValue s))
      frameIrqClear := true
      draws := drawsAfterOpenBus s }

/-- WR_OTHER: "No core state changes" (45_status_and_clocking.md R212). What the frame sequencer does with a $4017 write
is the environment's (Environment.lean). -/
def execWrOther (_a : Addr) (_d : Byte) (s : State) : Host.Outcome State Fault Refusal := .next s

/-- RD_OTHER: the result is "no response" (45_status_and_clocking.md R213). -/
def execRdOther (_a : Addr) (s : State) : Host.Outcome State Fault Refusal := .next { s with rdata := none }

end Sys2Proof.Machine
end

