-- ==== Sys2Proof/Machine/Dispatch.lean ====
section
/-! DEFINITION. The meaning of every operation, one arm per constructor of Instr. -/

namespace Sys2Proof.Machine

def exec (i : Instr) (s : State) : Host.Outcome State Fault Refusal :=
  match i with
  | .wrP1Ctrl d => Sys2Proof.Machine.execWrP1Ctrl d s
  | .wrP1Sweep d => Sys2Proof.Machine.execWrP1Sweep d s
  | .wrP1Tlo d => Sys2Proof.Machine.execWrP1Tlo d s
  | .wrP1Thi d => Sys2Proof.Machine.execWrP1Thi d s
  | .wrP2Ctrl d => Sys2Proof.Machine.execWrP2Ctrl d s
  | .wrP2Sweep d => Sys2Proof.Machine.execWrP2Sweep d s
  | .wrP2Tlo d => Sys2Proof.Machine.execWrP2Tlo d s
  | .wrP2Thi d => Sys2Proof.Machine.execWrP2Thi d s
  | .wrTriLinear d => Sys2Proof.Machine.execWrTriLinear d s
  | .wr4009Unused d => Sys2Proof.Machine.execWr4009Unused d s
  | .wrTriTlo d => Sys2Proof.Machine.execWrTriTlo d s
  | .wrTriThi d => Sys2Proof.Machine.execWrTriThi d s
  | .wrNoiseCtrl d => Sys2Proof.Machine.execWrNoiseCtrl d s
  | .wr400dUnused d => Sys2Proof.Machine.execWr400dUnused d s
  | .wrNoisePeriod d => Sys2Proof.Machine.execWrNoisePeriod d s
  | .wrNoiseLen d => Sys2Proof.Machine.execWrNoiseLen d s
  | .wrDmcCtrl d => Sys2Proof.Machine.execWrDmcCtrl d s
  | .wrDmcLoad d => Sys2Proof.Machine.execWrDmcLoad d s
  | .wrDmcAddr d => Sys2Proof.Machine.execWrDmcAddr d s
  | .wrDmcLen d => Sys2Proof.Machine.execWrDmcLen d s
  | .wrStatus d => Sys2Proof.Machine.execWrStatus d s
  | .wrOther a d => Sys2Proof.Machine.execWrOther a d s
  | .rdStatus => Sys2Proof.Machine.execRdStatus s
  | .rdOther a => Sys2Proof.Machine.execRdOther a s
  | .cycle => Sys2Proof.Machine.execCycle s
  | .qf => Sys2Proof.Machine.execQf s
  | .hf => Sys2Proof.Machine.execHf s
  | .reset => Sys2Proof.Machine.execReset s

end Sys2Proof.Machine
end

