-- ==== Sys2Proof/Machine/Outputs.lean ====
section
/-! DEFINITION. The five published outputs: the raw outputs through the enable gate (45_status_and_clocking.md R218). -/

namespace Sys2Proof.Machine

/-- A raw output through the enable gate (45_status_and_clocking.md R218). -/
def gated (cfg : Config) (enabled : Bool) (raw : Nat) : Nat :=
  if cfg.disabledGate = true ∧ enabled = false then 0 else raw

/-- `raw.P1` (41_pulse.md R107). -/
def rawP1 (s : State) : Nat := s.p1.raw s.cfg.sweepNegateP1 .one

/-- `raw.P2` (41_pulse.md R107). -/
def rawP2 (s : State) : Nat := s.p2.raw s.cfg.sweepNegateP1 .two

/-- `raw.T` (42_triangle.md R145). -/
def rawT (s : State) : Nat := s.t.raw s.cfg.triOrder s.cfg.triHaltOutput

/-- `raw.N` (43_noise.md R164). -/
def rawN (s : State) : Nat := s.n.raw

/-- `raw.D` (44_dmc.md R189). -/
def rawD (s : State) : Nat := s.d.raw

/-- `out.P1` (45_status_and_clocking.md R218). -/
def outP1 (s : State) : Nat := gated s.cfg s.en.p1 (rawP1 s)

/-- `out.P2` (45_status_and_clocking.md R218). -/
def outP2 (s : State) : Nat := gated s.cfg s.en.p2 (rawP2 s)

/-- `out.T` (45_status_and_clocking.md R218). -/
def outT (s : State) : Nat := gated s.cfg s.en.t (rawT s)

/-- `out.N` (45_status_and_clocking.md R218). -/
def outN (s : State) : Nat := gated s.cfg s.en.n (rawN s)

/-- `out.D` (45_status_and_clocking.md R218). -/
def outD (s : State) : Nat := gated s.cfg s.en.d (rawD s)

end Sys2Proof.Machine
end

