-- ==== Sys2Proof/Machine/Environment.lean ====
section
/-! DEFINITION. THE ENVIRONMENT, not the core: the frame sequencer, the clock driver's part of a CPU cycle, the mixer
(60_exceptions.md R240-R245), and what the environment does on the core's strobes and on accesses the core ignores. -/

namespace Sys2Proof.Machine

/-- The table FRAME_SCHEDULE gives the frame sequencer in its mode (60_exceptions.md R241). -/
def frameTable (cfg : Config) (fiveStep : Bool) : FrameTable :=
  match cfg.frameSchedule with
  | .nesdev => if fiveStep then nesdevFiveStep cfg.region else nesdevFourStep cfg.region
  | .custom four five => if fiveStep then five else four

/-- The strobes a schedule lists for a count, QF before HF (60_exceptions.md R241). -/
def strobesAt (table : FrameTable) (count : Nat) : List Instr :=
  let hits := table.steps.filter (fun x => x.count == count)
  (if hits.any (·.qf) then [Instr.qf] else []) ++ (if hits.any (·.hf) then [Instr.hf] else [])

/-- Events that issue the given operations, in order. -/
def issueAll (l : List Instr) : List Event := l.map (fun i => Event.op (encode i))

/-- The count the frame sequencer reaches in a frame step (60_exceptions.md R241). -/
def FrameSequencer.nextCount (f : FrameSequencer) : BitVec 16 := f.count + 1#16

/-- `frame_irq_step()` at count `c` (60_exceptions.md R242). -/
def FrameSequencer.irqStep (r : Region) (c : BitVec 16) (f : FrameSequencer) : Bool :=
  if f.mode = false ∧ f.inhibit = false ∧ c.toNat ∈ irqWindow r then true else f.irq

/-- `frame_step()`, less the strobes: the count, the frame IRQ, the wrap (60_exceptions.md R241, R242). -/
def FrameSequencer.step (cfg : Config) (f : FrameSequencer) : FrameSequencer :=
  { f with
    irq := f.irqStep cfg.region f.nextCount
    count := if f.nextCount.toNat = (frameTable cfg f.mode).wrap then 0#16 else f.nextCount }

/-- The strobes of the next `frame_step()` (60_exceptions.md R241). -/
def FrameSequencer.strobes (cfg : Config) (f : FrameSequencer) : List Instr :=
  strobesAt (frameTable cfg f.mode) f.nextCount.toNat

/-- The frame sequencer after a write of `d` to $4017 (60_exceptions.md R240). -/
def FrameSequencer.write4017 (d : Byte) (f : FrameSequencer) : FrameSequencer :=
  { mode := bitOf d 7, inhibit := bitOf d 6, count := 0#16, irq := if bitOf d 6 then false else f.irq }

/-- The strobes a write of `d` to $4017 issues at once: QF then HF when bit 7 is 1 (60_exceptions.md R240). -/
def strobesOf4017 (d : Byte) : List Instr := if bitOf d 7 then [.qf, .hf] else []

/-- The environment takes the `frameIrqClear` strobe: its flag clears (60_exceptions.md R233, R242). -/
def takeStrobe (s : State) : State :=
  if s.frameIrqClear then { s with frameIrqClear := false, frame := { s.frame with irq := false } } else s

/-- The frame sequencer sees a $4017 write that the core ignores (60_exceptions.md R240; 45_status_and_clocking.md R212).
The strobes it issues come before the caller's next operation (notes/assumptions/8.md). -/
def see4017 (a : Addr) (d : Byte) (s : State) : State :=
  if a = 0x4017#16 then
    { s with frame := s.frame.write4017 d, stream := issueAll (strobesOf4017 d) ++ s.stream }
  else s

/-- The environment resets its own frame sequencer at the same time as the core (70_reset_and_hazards.md R261;
notes/assumptions/9.md). -/
def resetFrame (s : State) : State := { s with frame := FrameSequencer.reset }

/-- What the environment does in answer to an operation the core has just done. -/
def react : Instr → State → State
  | .wrOther a d, s => takeStrobe (see4017 a d s)
  | .reset, s => takeStrobe (resetFrame s)
  | .wrP1Ctrl _, s | .wrP1Sweep _, s | .wrP1Tlo _, s | .wrP1Thi _, s => takeStrobe s
  | .wrP2Ctrl _, s | .wrP2Sweep _, s | .wrP2Tlo _, s | .wrP2Thi _, s => takeStrobe s
  | .wrTriLinear _, s | .wr4009Unused _, s | .wrTriTlo _, s | .wrTriThi _, s => takeStrobe s
  | .wrNoiseCtrl _, s | .wr400dUnused _, s | .wrNoisePeriod _, s | .wrNoiseLen _, s => takeStrobe s
  | .wrDmcCtrl _, s | .wrDmcLoad _, s | .wrDmcAddr _, s | .wrDmcLen _, s => takeStrobe s
  | .wrStatus _, s | .rdStatus, s | .rdOther _, s | .cycle, s | .qf, s | .hf, s => takeStrobe s

/-- CLOCK n: with n = 0 nothing; else the environment does `frame_step()`, and its strobes, the CYCLE and the rest of the
clock come next (60_exceptions.md R243). -/
def runClock (n : Nat) (s : State) : State :=
  match n with
  | 0 => s
  | k + 1 =>
    { s with
      frame := s.frame.step s.cfg
      stream := issueAll (s.frame.strobes s.cfg) ++ Event.op (encode .cycle) :: Event.clock k :: s.stream }

/-- The host stores a byte of its sample memory (20_memory.md R51). -/
def runHostWrite (a : Addr) (b : Byte) (s : State) : State := { s with mem := s.mem.write a.toNat b }

/-- The environment drives `openBus` or lets it go (10_state.md R17). -/
def runOpenBus (b : Option Byte) (s : State) : State := { s with openBus := b }

/-- `pulse_out` (60_exceptions.md R244). -/
def mixPulse (p1 p2 : Nat) : Rat :=
  if p1 + p2 = 0 then 0 else (9588 / 100) / (8128 / ((p1 + p2 : Nat) : Rat) + 100)

/-- `tnd_out` (60_exceptions.md R244). -/
def mixTnd (t n d : Nat) : Rat :=
  if t = 0 ∧ n = 0 ∧ d = 0 then 0
  else (15979 / 100) / (1 / ((t : Rat) / 8227 + (n : Rat) / 12241 + (d : Rat) / 22638) + 100)

/-- The mixer's output, a pure function of the five outputs (60_exceptions.md R244). -/
def mix (s : State) : Rat := mixPulse (outP1 s) (outP2 s) + mixTnd (outT s) (outN s) (outD s)

/-- The byte the sink would get, by the open map MIX_TO_U8 (60_exceptions.md R245). -/
def mixByte (s : State) : Byte := Config.mixToU8 (mix s)

end Sys2Proof.Machine
end

