-- ==== Sys2Proof/Machine/Driver.lean ====
section
/-! DEFINITION. How the stream drives the machine: issuing a word (30_encoding.md R60-R64), running an event
(20_memory.md R50), and the pseudo-operations and text of 30_encoding.md R69, R70. -/

namespace Sys2Proof.Machine

/-- Issues an operation: the core does it, then the environment reacts. -/
def issue (i : Instr) (s : State) : Host.Outcome State Fault Refusal :=
  match exec i s with
  | .next t => .next (react i t)
  | .fault r => .fault r
  | .refused r => .refused r

/-- Issues an operation word; an invalid word is refused (30_encoding.md R62). -/
def issueWord (w : OpWord) (s : State) : Host.Outcome State Fault Refusal :=
  match decode w with
  | .ok i => issue i s
  | .error e => .refused (.invalidWord e)

/-- Runs one event, already taken off the stream. -/
def runEvent (e : Event) (s : State) : Host.Outcome State Fault Refusal :=
  match e with
  | .op w => issueWord w s
  | .clock n => .next (runClock n s)
  | .hostWrite a b => .next (runHostWrite a b s)
  | .openBus b => .next (runOpenBus b s)

/-- One step: the oldest event of the stream. With none, no operation is issued and the state persists
(60_exceptions.md R247; notes/assumptions/1.md). -/
def runStream (s : State) : Host.Outcome State Fault Refusal :=
  match s.stream with
  | [] => .next s
  | e :: rest => runEvent e { s with stream := rest }

/-- The stream with a table row's word placed where the next step takes its operation. -/
def placeWord (nbits w : Nat) (stream : List Event) : List Event := Event.op (tableWord nbits w) :: stream

/-- The pseudo-operation `CYC n` (30_encoding.md R70). -/
def pseudoCyc (n : Nat) : List Event := issueAll (List.replicate n .cycle)

/-- The pseudo-operation `CLOCK n` (30_encoding.md R70). -/
def pseudoClock (n : Nat) : List Event := [.clock n]

/-- The pseudo-operation `STEP_QF` (30_encoding.md R70). -/
def pseudoStepQf : List Event := issueAll [.qf]

/-- The pseudo-operation `STEP_HF`: QF followed by HF (30_encoding.md R70). -/
def pseudoStepHf : List Event := issueAll [.qf, .hf]

/-- One hexadecimal digit, capital letters. -/
def hexDigit (n : Nat) : Char := "0123456789ABCDEF".toList.getD n '0'

/-- `n` as `k` hexadecimal digits. -/
def hexDigits : Nat → Nat → String
  | 0, _ => ""
  | k + 1, n => hexDigits k (n / 16) ++ String.singleton (hexDigit (n % 16))

/-- The textual form of a word's operation (30_encoding.md R69). -/
def wordText (w : OpWord) : String :=
  let addr := "$" ++ hexDigits 4 (addrOf w).toNat
  match opOf w with
  | 0b000#3 => "WR " ++ addr ++ ", $" ++ hexDigits 2 (dataOf w).toNat
  | 0b001#3 => "RD " ++ addr
  | 0b010#3 => "CYC"
  | 0b011#3 => "QF"
  | 0b100#3 => "HF"
  | 0b101#3 => "RESET"
  | _ => ""

end Sys2Proof.Machine
end

