-- ==== Sys2Proof/Machine/Step.lean ====
section
/-! DEFINITION. One step of the machine: it takes the oldest event of the caller's stream (20_memory.md R50). The core has
no program counter and fetches no instruction (10_state.md R11). -/

namespace Sys2Proof.Machine

/-- One step. -/
def step (s : State) : Host.Outcome State Fault Refusal := runStream s

/-- `s` with the operation word of a table row placed at the head of the stream, so that the next step issues it
(notes/assumptions/1.md). -/
def State.withFetchWord (s : State) (nbits w : Nat) : State := { s with stream := placeWord nbits w s.stream }

end Sys2Proof.Machine
end

