-- ==== Sys2Proof/Safety.lean ====
section
/-! DEFINITION. The terms the claims are stated in: the next state of an operation, repeated operations, the invariant of
10_state.md R39, and a written byte or a word read as a number (00_scope.md R4). -/

namespace Sys2Proof.Safety

open Sys2Proof.Machine

/-- The next state of an outcome, if it has one. -/
def nextOf {σ φ ρ : Type} : Host.Outcome σ φ ρ → Option σ
  | .next s => some s
  | .fault _ => none
  | .refused _ => none

/-- The state after an operation; the same state where it stops. -/
def after (i : Instr) (s : State) : State := (nextOf (exec i s)).getD s

/-- The state after `k` operations `i` in a row. -/
def afterMany (i : Instr) : Nat → State → State
  | 0, s => s
  | k + 1, s => afterMany i k (after i s)

/-- $00 written to every register $4000-$4013 and $4015, in address order (70_reset_and_hazards.md R262). -/
def zeroBytes : List Instr :=
  [.wrP1Ctrl 0, .wrP1Sweep 0, .wrP1Tlo 0, .wrP1Thi 0, .wrP2Ctrl 0, .wrP2Sweep 0, .wrP2Tlo 0, .wrP2Thi 0,
    .wrTriLinear 0, .wr4009Unused 0, .wrTriTlo 0, .wrTriThi 0, .wrNoiseCtrl 0, .wr400dUnused 0] ++
  [.wrNoisePeriod 0, .wrNoiseLen 0, .wrDmcCtrl 0, .wrDmcLoad 0, .wrDmcAddr 0, .wrDmcLen 0, .wrStatus 0]

/-- Bit `k` of a data byte, by arithmetic (00_scope.md R4). -/
def bit (d : Byte) (k : Nat) : Bool := decide (d.toNat / 2 ^ k % 2 = 1)

/-- Bits `lo + w - 1` down to `lo` of a data byte as a number (00_scope.md R4). -/
def bits (d : Byte) (lo w : Nat) : Nat := d.toNat / 2 ^ lo % 2 ^ w

/-- `{d[2:0], lo[7:0]}` and `{hi[10:8], d[7:0]}` as numbers are `256 * hi + lo` (00_scope.md R4; 30_encoding.md R65). -/
def period11 (hi lo : Nat) : BitVec 11 := BitVec.ofNat 11 (256 * hi + lo)

/-- LENGTH_TABLE[data[7:3]], the value a length-loading write of `d` loads (40_common_units.md R81, R82). -/
def loadedLength (d : Byte) : BitVec 8 :=
  BitVec.ofNat 8
    (([10, 254, 20, 2, 40, 4, 80, 6, 160, 8, 60, 10, 14, 12, 26, 14, 12, 16, 24, 18, 48, 20, 96, 22, 192, 24, 72, 26,
       16, 28, 32, 30] : List Nat).getD (bits d 3 5) 0)

/-- The fields of an operation word as numbers: op, rsv, addr, data (30_encoding.md R60). -/
def wordOp (w : OpWord) : Nat := w.toNat / 2 ^ 25

/-- See `wordOp`. -/
def wordRsv (w : OpWord) : Nat := w.toNat / 2 ^ 24 % 2

/-- See `wordOp`. -/
def wordAddr (w : OpWord) : Nat := w.toNat / 2 ^ 8 % 2 ^ 16

/-- See `wordOp`. -/
def wordData (w : OpWord) : Nat := w.toNat % 2 ^ 8

/-- The four conditions under which a word is invalid (30_encoding.md R62). -/
def InvalidWord (w : OpWord) : Prop :=
  6 ≤ wordOp w ∨ wordRsv w = 1 ∨ (wordOp w = 1 ∧ wordData w ≠ 0) ∨
    ((2 ≤ wordOp w ∧ wordOp w ≤ 5) ∧ (wordAddr w ≠ 0 ∨ wordData w ≠ 0))

/-- The invariant of 10_state.md R39, with the ranges of `N.timer` and `D.timer` (R15, R16), the canonical form of the
sample memory, and the strobe taken (notes/assumptions/7.md). -/
structure Inv (s : State) : Prop where
  /-- R39(a). -/
  offP1 : s.en.p1 = false → s.p1.len = 0
  /-- R39(a). -/
  offP2 : s.en.p2 = false → s.p2.len = 0
  /-- R39(a). -/
  offT : s.en.t = false → s.t.len = 0
  /-- R39(a). -/
  offN : s.en.n = false → s.n.len = 0
  /-- R39(b). -/
  curAddr : 0x8000 ≤ s.d.curAddr.toNat
  /-- R39(c). -/
  bytesLeft : s.d.bytesLeft.toNat ≤ 4081
  /-- R39(d). -/
  bitsLeft : 1 ≤ s.d.bitsLeft.toNat ∧ s.d.bitsLeft.toNat ≤ 8
  /-- R39(e). -/
  lfsr : s.n.lfsr ≠ 0
  /-- R39(f). -/
  len : s.p1.len.toNat ≤ 254 ∧ s.p2.len.toNat ≤ 254 ∧ s.t.len.toNat ≤ 254 ∧ s.n.len.toNat ≤ 254
  /-- R39(g). -/
  level : s.d.level.toNat ≤ 127
  /-- The range of `N.timer` (R15). -/
  noiseTimer : s.n.timer.toNat ≤ 2033
  /-- The range of `D.timer` (R16). -/
  dmcTimer : s.d.timer.toNat ≤ 427
  /-- The sample memory is in its canonical form. -/
  mem : s.mem.wf = true
  /-- The environment has taken the strobe. -/
  strobe : s.frameIrqClear = false

end Sys2Proof.Safety
end

