-- ==== Sys2Proof/Certificates/Slice0/Obligations.lean ====
section
/-! DEFINITION. The statements for the provers: what the rules of spec/ say the core does. -/

open Sys2Proof
open Sys2Proof.Machine
open Sys2Proof.Safety

/-! ## Encoding (30_encoding.md) -/

/-- R60, R61, R63, R64: every well-formed operation survives encoding and decoding, with every operand. -/
def Obligations.DecodeOfEncodeIsTheOperation : Prop :=
  ∀ i : Instr, i.wf = true → decode (encode i) = .ok i

/-- R60-R64: a word that decodes has one meaning, and that meaning's word is it: no bit is dropped. -/
def Obligations.EncodeOfDecodeIsTheWord : Prop :=
  ∀ (w : OpWord) (i : Instr), decode w = .ok i → i.wf = true ∧ encode i = w

/-- R62: exactly the invalid words are refused, in every state; a valid word always gets a next state. -/
def Obligations.InvalidWordsAreRefusedAndValidOnesRun : Prop :=
  ∀ (w : OpWord) (s : State),
    (InvalidWord w → ∃ e, decode w = .error e ∧ issueWord w s = .refused (.invalidWord e)) ∧
    (¬ InvalidWord w → ∃ i t, decode w = .ok i ∧ issueWord w s = .next t)

/-- R63, R64: a WRITE selects its rule by the exact 16-bit address, any other address being WR_OTHER; a READ of $4015 is
RD_STATUS, a READ of any other address RD_OTHER. -/
def Obligations.AccessesSelectByAddress : Prop :=
  decode 0x2401500#28 = .ok .rdStatus ∧
  (∀ a : Addr, a.toNat ≠ 0x4015 → decode (BitVec.ofNat 28 (0x2000000 + 256 * a.toNat)) = .ok (.rdOther a)) ∧
  ∀ d : Byte,
    (decode (BitVec.ofNat 28 (0x400000 + d.toNat)) = .ok (.wrP1Ctrl d) ∧
      decode (BitVec.ofNat 28 (0x400100 + d.toNat)) = .ok (.wrP1Sweep d) ∧
      decode (BitVec.ofNat 28 (0x400200 + d.toNat)) = .ok (.wrP1Tlo d) ∧
      decode (BitVec.ofNat 28 (0x400300 + d.toNat)) = .ok (.wrP1Thi d) ∧
      decode (BitVec.ofNat 28 (0x400400 + d.toNat)) = .ok (.wrP2Ctrl d) ∧
      decode (BitVec.ofNat 28 (0x400500 + d.toNat)) = .ok (.wrP2Sweep d) ∧
      decode (BitVec.ofNat 28 (0x400600 + d.toNat)) = .ok (.wrP2Tlo d) ∧
      decode (BitVec.ofNat 28 (0x400700 + d.toNat)) = .ok (.wrP2Thi d)) ∧
    (decode (BitVec.ofNat 28 (0x400800 + d.toNat)) = .ok (.wrTriLinear d) ∧
      decode (BitVec.ofNat 28 (0x400900 + d.toNat)) = .ok (.wr4009Unused d) ∧
      decode (BitVec.ofNat 28 (0x400A00 + d.toNat)) = .ok (.wrTriTlo d) ∧
      decode (BitVec.ofNat 28 (0x400B00 + d.toNat)) = .ok (.wrTriThi d) ∧
      decode (BitVec.ofNat 28 (0x400C00 + d.toNat)) = .ok (.wrNoiseCtrl d) ∧
      decode (BitVec.ofNat 28 (0x400D00 + d.toNat)) = .ok (.wr400dUnused d) ∧
      decode (BitVec.ofNat 28 (0x400E00 + d.toNat)) = .ok (.wrNoisePeriod d) ∧
      decode (BitVec.ofNat 28 (0x400F00 + d.toNat)) = .ok (.wrNoiseLen d)) ∧
    (decode (BitVec.ofNat 28 (0x401000 + d.toNat)) = .ok (.wrDmcCtrl d) ∧
      decode (BitVec.ofNat 28 (0x401100 + d.toNat)) = .ok (.wrDmcLoad d) ∧
      decode (BitVec.ofNat 28 (0x401200 + d.toNat)) = .ok (.wrDmcAddr d) ∧
      decode (BitVec.ofNat 28 (0x401300 + d.toNat)) = .ok (.wrDmcLen d) ∧
      decode (BitVec.ofNat 28 (0x401500 + d.toNat)) = .ok (.wrStatus d)) ∧
    ∀ a : Addr, (a.toNat < 0x4000 ∨ a.toNat = 0x4014 ∨ 0x4016 ≤ a.toNat) →
      decode (BitVec.ofNat 28 (256 * a.toNat + d.toNat)) = .ok (.wrOther a d)

/-- R61 and the worked words of 95_test_vectors.md §2.1: a few words written out from the encoding. -/
def Obligations.WrittenOutWordsDecode : Prop :=
  decode 0x0401501#28 = .ok (.wrStatus 0x01) ∧ decode 0x04000BF#28 = .ok (.wrP1Ctrl 0xBF) ∧
  decode 0x0400308#28 = .ok (.wrP1Thi 0x08) ∧ decode 0x04017C0#28 = .ok (.wrOther 0x4017 0xC0) ∧
  decode 0x2401600#28 = .ok (.rdOther 0x4016) ∧ decode 0x4000000#28 = .ok .cycle ∧
  decode 0x6000000#28 = .ok .qf ∧ decode 0x8000000#28 = .ok .hf ∧ decode 0xA000000#28 = .ok .reset

/-! ## The step and the environment around it -/

/-- 20_memory.md R50, 30_encoding.md R62: a step takes the oldest event of the stream; where that is a word the decoder
reads as `i`, the step is exec of `i`, with the environment's reaction to `i` after it; where the decoder refuses the
word, so does the step. -/
def Obligations.StepIssuesTheDecodedOperation : Prop :=
  ∀ (s : State) (w : OpWord) (rest : List Event), s.stream = Event.op w :: rest →
    (∀ i t, decode w = .ok i → exec i { s with stream := rest } = .next t → step s = .next (react i t)) ∧
    (∀ e, decode w = .error e → step s = .refused (.invalidWord e))

/-- The reaction is nothing, but for the three cases the environment's rules name: a raised strobe clears the frame-IRQ
flag (60_exceptions.md R233, R242), a $4017 write reaches the frame sequencer (R240), and a RESET resets it
(70_reset_and_hazards.md R261, a DEDUCED reading: notes/assumptions/9.md). -/
def Obligations.EnvironmentReactsOnlyAsItsRulesSay : Prop :=
  ∀ (i : Instr) (s : State),
    (i ≠ .reset → (∀ d, i ≠ .wrOther 0x4017 d) → s.frameIrqClear = false → react i s = s) ∧
    (i ≠ .reset → (∀ d, i ≠ .wrOther 0x4017 d) → s.frameIrqClear = true →
      react i s = { s with frameIrqClear := false, frame := { s.frame with irq := false } }) ∧
    (s.frameIrqClear = false →
      react .reset s = { s with frame := { mode := false, inhibit := false, count := 0, irq := false } })

/-- 60_exceptions.md R240: what a $4017 write does in the frame sequencer, the immediate QF and HF included. -/
def Obligations.Write4017SetsTheFrameSequencer : Prop :=
  ∀ (d : Byte) (s : State), s.frameIrqClear = false →
    react (.wrOther 0x4017 d) s =
      { s with
        frame :=
          { mode := bit d 7
            inhibit := bit d 6
            count := 0
            irq := if bit d 6 then false else s.frame.irq }
        stream := if bit d 7 then Event.op 0x6000000#28 :: Event.op 0x8000000#28 :: s.stream else s.stream }

/-- Events that are no operation: an empty stream leaves the state as it is, a host write and a change of the driven
openBus change that one input (20_memory.md R51, 10_state.md R17; the model's stream is notes/assumptions/1.md). -/
def Obligations.InputEventsChangeOnlyTheirInput : Prop :=
  ∀ (s : State) (rest : List Event),
    (s.stream = [] → step s = .next s) ∧
    (∀ a b, s.stream = Event.hostWrite a b :: rest →
      ∃ t, step s = .next t ∧ t = { s with stream := rest, mem := t.mem } ∧ t.mem.read a.toNat = some b ∧
        ∀ x, x ≠ a.toNat → t.mem.read x = s.mem.read x) ∧
    (∀ b, s.stream = Event.openBus b :: rest → step s = .next { s with stream := rest, openBus := b })

/-- 60_exceptions.md R241-R243 under the NESDev schedule, for each REGION and mode: one CPU cycle of CLOCK advances the
count, issues the strobes listed for it, QF before HF, sets the frame IRQ in its window, wraps, and then issues the CYCLE
before the rest of the clock; CLOCK 0 does nothing. The next state is the model's layout of that cycle
(notes/assumptions/8.md): R241 issues the strobes before the IRQ step and the wrap, and here those two are already done while
the strobes, the CYCLE and the rest of the clock wait at the head of the stream, each a step of its own. A custom
FRAME_SCHEDULE, and a count of 65535, which no run reaches (notes/assumptions/10.md), are left out. -/
def Obligations.ClockRunsFrameStepThenCycle : Prop :=
  ∀ (s : State) (k c wrap : Nat) (qfs both window : List Nat) (rest : List Event),
    (s.stream = Event.clock 0 :: rest → step s = .next { s with stream := rest }) ∧
    (s.stream = Event.clock (k + 1) :: rest → s.cfg.frameSchedule = .nesdev → c = s.frame.count.toNat + 1 →
      s.frame.count.toNat < 65535 →
      (qfs, both, wrap) = (match s.cfg.region, s.frame.mode with
        | .ntsc, false => ([7457, 22371], [14913, 29829], 29830)
        | .ntsc, true => ([7457, 22371], [14913, 37281], 37282)
        | .pal, false => ([8313, 24939], [16627, 33253], 33254)
        | .pal, true => ([8313, 24939], [16627, 41565], 41566)) →
      window = (match s.cfg.region with
        | .ntsc => [29828, 29829, 29830]
        | .pal => [33252, 33253, 33254]) →
      step s = .next
        { s with
          frame :=
            { s.frame with
              count := if c = wrap then 0 else BitVec.ofNat 16 c
              irq := if s.frame.mode = false ∧ s.frame.inhibit = false ∧ c ∈ window then true else s.frame.irq }
          stream :=
            (if c ∈ qfs then [Event.op 0x6000000#28]
              else if c ∈ both then [Event.op 0x6000000#28, Event.op 0x8000000#28]
              else []) ++ Event.op 0x4000000#28 :: Event.clock k :: rest })

/-! ## Register writes -/

/-- 41_pulse.md R108, R109, R112, R113: the duty/envelope and the sweep writes of both Pulse generators, and nothing else
changes. -/
def Obligations.PulseControlAndSweepWrites : Prop :=
  ∀ (d : Byte) (s : State),
    exec (.wrP1Ctrl d) s = .next
      { s with p1 := { s.p1 with
          duty := BitVec.ofNat 2 (bits d 6 2), halt := bit d 5, constVol := bit d 4, vol := BitVec.ofNat 4 (bits d 0 4) } } ∧
    exec (.wrP2Ctrl d) s = .next
      { s with p2 := { s.p2 with
          duty := BitVec.ofNat 2 (bits d 6 2), halt := bit d 5, constVol := bit d 4, vol := BitVec.ofNat 4 (bits d 0 4) } } ∧
    exec (.wrP1Sweep d) s = .next
      { s with p1 := { s.p1 with
          swEn := bit d 7, swPeriod := BitVec.ofNat 3 (bits d 4 3), swNeg := bit d 3,
          swShift := BitVec.ofNat 3 (bits d 0 3), swReload := true } } ∧
    exec (.wrP2Sweep d) s = .next
      { s with p2 := { s.p2 with
          swEn := bit d 7, swPeriod := BitVec.ofNat 3 (bits d 4 3), swNeg := bit d 3,
          swShift := BitVec.ofNat 3 (bits d 0 3), swReload := true } }

/-- 41_pulse.md R110, R114 and 42_triangle.md R147: a timer-low write keeps the high bits, and nothing else changes. -/
def Obligations.TimerLowWrites : Prop :=
  ∀ (d : Byte) (s : State),
    exec (.wrP1Tlo d) s = .next { s with p1 := { s.p1 with period := period11 (s.p1.period.toNat / 256) d.toNat } } ∧
    exec (.wrP2Tlo d) s = .next { s with p2 := { s.p2 with period := period11 (s.p2.period.toNat / 256) d.toNat } } ∧
    exec (.wrTriTlo d) s = .next { s with t := { s.t with period := period11 (s.t.period.toNat / 256) d.toNat } }

/-- 41_pulse.md R111, R115: the length/timer-high write keeps the low bits of the period, loads the length only if the
channel is enabled, resets the sequencer and restarts the envelope, and nothing else changes. -/
def Obligations.PulseTimerHighWrites : Prop :=
  ∀ (d : Byte) (s : State),
    exec (.wrP1Thi d) s = .next
      { s with p1 := { s.p1 with
          period := period11 (bits d 0 3) (s.p1.period.toNat % 256),
          len := if s.en.p1 then loadedLength d else s.p1.len,
          seq := 0, env := { s.p1.env with start := true } } } ∧
    exec (.wrP2Thi d) s = .next
      { s with p2 := { s.p2 with
          period := period11 (bits d 0 3) (s.p2.period.toNat % 256),
          len := if s.en.p2 then loadedLength d else s.p2.len,
          seq := 0, env := { s.p2.env with start := true } } }

/-- 42_triangle.md R146, R148: WR_TRI_LINEAR and WR_TRI_THI, and nothing else changes. -/
def Obligations.TriangleWrites : Prop :=
  ∀ (d : Byte) (s : State),
    exec (.wrTriLinear d) s = .next
      { s with t := { s.t with ctrl := bit d 7, linLoad := BitVec.ofNat 7 (bits d 0 7) } } ∧
    exec (.wrTriThi d) s = .next
      { s with t := { s.t with
          period := period11 (bits d 0 3) (s.t.period.toNat % 256),
          len := if s.en.t then loadedLength d else s.t.len,
          linReload := true } }

/-- 43_noise.md R165, R167, R168: WR_NOISE_CTRL, WR_NOISE_PERIOD and WR_NOISE_LEN, and nothing else changes. -/
def Obligations.NoiseWrites : Prop :=
  ∀ (d : Byte) (s : State),
    exec (.wrNoiseCtrl d) s = .next
      { s with n := { s.n with halt := bit d 5, constVol := bit d 4, vol := BitVec.ofNat 4 (bits d 0 4) } } ∧
    exec (.wrNoisePeriod d) s = .next
      { s with n := { s.n with mode := bit d 7, periodIdx := BitVec.ofNat 4 (bits d 0 4) } } ∧
    exec (.wrNoiseLen d) s = .next
      { s with n := { s.n with
          len := if s.en.n then loadedLength d else s.n.len, env := { s.n.env with start := true } } }

/-- 44_dmc.md R190-R193: the four DMC register writes, and nothing else changes. -/
def Obligations.DmcWrites : Prop :=
  ∀ (d : Byte) (s : State),
    exec (.wrDmcCtrl d) s = .next
      { s with d := { s.d with
          irqEn := bit d 7, loop := bit d 6, rateIdx := BitVec.ofNat 4 (bits d 0 4),
          irq := if bit d 7 then s.d.irq else false } } ∧
    exec (.wrDmcLoad d) s = .next { s with d := { s.d with level := BitVec.ofNat 7 (d.toNat % 128) } } ∧
    exec (.wrDmcAddr d) s = .next { s with d := { s.d with addrReg := d } } ∧
    exec (.wrDmcLen d) s = .next { s with d := { s.d with lenReg := d } }

/-- 42_triangle.md R149, 43_noise.md R166, 45_status_and_clocking.md R212, R213: writes to unused and other addresses change
nothing; a read elsewhere gets no response, and changes nothing but that answer. R212 and R213 speak of addresses that no
other row has; that the terms WR_OTHER with an address of the window and RD_OTHER with $4015, which no word decodes to, act
the same is the model's choice (notes/assumptions/16.md), and so is the latch of the answer (notes/assumptions/6.md). -/
def Obligations.UnusedAndOtherAccessesChangeNothing : Prop :=
  ∀ (a : Addr) (d : Byte) (s : State),
    exec (.wr4009Unused d) s = .next s ∧ exec (.wr400dUnused d) s = .next s ∧ exec (.wrOther a d) s = .next s ∧
    exec (.rdOther a) s = .next { s with rdata := none }

/-- 45_status_and_clocking.md R210: the $4015 write: enables, lengths, DMC stop or start, the DMC IRQ cleared, and nothing
else changes. -/
def Obligations.StatusWrite : Prop :=
  ∀ (d : Byte) (s : State),
    exec (.wrStatus d) s = .next
      { s with
        en := { p1 := bit d 0, p2 := bit d 1, t := bit d 2, n := bit d 3, d := bit d 4 }
        p1 := { s.p1 with len := if bit d 0 then s.p1.len else 0 }
        p2 := { s.p2 with len := if bit d 1 then s.p2.len else 0 }
        t := { s.t with len := if bit d 2 then s.t.len else 0 }
        n := { s.n with len := if bit d 3 then s.n.len else 0 }
        d := { s.d with
          curAddr :=
            if bit d 4 ∧ s.d.bytesLeft = 0 then BitVec.ofNat 16 (0xC000 + 64 * s.d.addrReg.toNat) else s.d.curAddr
          bytesLeft :=
            if bit d 4 then
              if s.d.bytesLeft = 0 then BitVec.ofNat 12 (16 * s.d.lenReg.toNat + 1) else s.d.bytesLeft
            else 0
          irq := false } }

/-! ## Reads -/

/-- 45_status_and_clocking.md R211: what a $4015 read answers, bit by bit; bit 5 is the driven openBus, or unconstrained
where nothing drives it; the strobe is raised and no core state changes. That the answer and the strobe
are fields, how an undriven openBus is drawn and the counter of draws are the model's choices (notes/assumptions/6.md, 7.md,
4.md, 5.md). -/
def Obligations.StatusReadAnswers : Prop :=
  ∀ s : State, ∃ (v : Byte) (k : Nat),
    exec .rdStatus s = .next { s with rdata := some v, frameIrqClear := true, draws := k } ∧
    bit v 7 = s.d.irq ∧ bit v 6 = s.frame.irq ∧ (∀ b, s.openBus = some b → bit v 5 = bit b 5) ∧
    bit v 4 = decide (0 < s.d.bytesLeft.toNat) ∧ bit v 3 = decide (0 < s.n.len.toNat) ∧
    bit v 2 = decide (0 < s.t.len.toNat) ∧ bit v 1 = decide (0 < s.p2.len.toNat) ∧
    bit v 0 = decide (0 < s.p1.len.toNat)

/-- 45_status_and_clocking.md R211, 60_exceptions.md R233: a step that reads $4015 leaves the environment's frame-IRQ flag
clear, so the next $4015 read finds it 0, and leaves D.irq as it was. -/
def Obligations.StatusReadStepClearsFrameIrq : Prop :=
  ∀ (s : State) (rest : List Event), s.stream = Event.op 0x2401500#28 :: rest →
    ∃ t v, step s = .next t ∧ t.rdata = some v ∧ bit v 6 = s.frame.irq ∧ t.frame = { s.frame with irq := false } ∧
      t.frameIrqClear = false ∧ t.d = s.d ∧ t.stream = rest

/-! ## Combinational values -/

/-- 41_pulse.md R104: the sweep target, and its range 0..4094. -/
def Obligations.SweepTargetValue : Prop :=
  ∀ (mode : NegateMode) (n : PulseId) (p : Pulse),
    (p.swNeg = false → p.target mode n = p.period.toNat + p.period.toNat / 2 ^ p.swShift.toNat) ∧
    (p.swNeg = true → n = .one → mode = .ones →
      p.target mode n = p.period.toNat - (p.period.toNat / 2 ^ p.swShift.toNat + 1)) ∧
    (p.swNeg = true → ¬ (n = .one ∧ mode = .ones) →
      p.target mode n = p.period.toNat - p.period.toNat / 2 ^ p.swShift.toNat) ∧
    p.target mode n ≤ 4094

/-- 41_pulse.md R105, 70_reset_and_hazards.md R265: a Pulse generator is muted exactly when its period is below 8 or its
target exceeds $7FF, which only an upward sweep can do; the sweep enable does not matter; with shift 0 and negate 0 every
period from $400 up is muted. -/
def Obligations.MutingIgnoresTheSweepEnable : Prop :=
  ∀ (mode : NegateMode) (n : PulseId) (p : Pulse) (e : Bool),
    (p.muted mode n = true ↔ p.period.toNat < 8 ∨ 0x7FF < p.target mode n) ∧
    (p.muted mode n = true ↔ p.period.toNat < 8 ∨
      (p.swNeg = false ∧ 0x7FF < p.period.toNat + p.period.toNat / 2 ^ p.swShift.toNat)) ∧
    ({ p with swEn := e } : Pulse).muted mode n = p.muted mode n ∧
    (p.swNeg = false → p.swShift = 0 → 0x400 ≤ p.period.toNat → p.muted mode n = true)

/-- 41_pulse.md R107, R101, 40_common_units.md R88: the raw output of a Pulse generator; DUTY_TABLE's row is the bits of
$02, $06, $1E, $F9, bit `seq` being its step `seq`. -/
def Obligations.PulseRawOutput : Prop :=
  ∀ (mode : NegateMode) (n : PulseId) (p : Pulse),
    p.raw mode n =
      if p.len ≠ 0 ∧ p.muted mode n = false ∧
          (([0x02, 0x06, 0x1E, 0xF9] : List Nat).getD p.duty.toNat 0) / 2 ^ p.seq.toNat % 2 = 1 then
        (if p.constVol then p.vol.toNat else p.env.decay.toNat)
      else 0

/-- 43_noise.md R164, 42_triangle.md R141, R145, 44_dmc.md R189: the raw outputs of Noise, Triangle and DMC. -/
def Obligations.NoiseTriangleDmcRawOutputs : Prop :=
  ∀ s : State,
    rawN s = (if s.n.len ≠ 0 ∧ s.n.lfsr.toNat % 2 = 0 then
      (if s.n.constVol then s.n.vol.toNat else s.n.env.decay.toNat) else 0) ∧
    rawD s = s.d.level.toNat ∧
    rawT s =
      (if s.cfg.triHaltOutput = .zero ∧ (s.t.lin = 0 ∨ s.t.len = 0) then 0
       else match s.cfg.triOrder with
        | .docAscending => if s.t.seq.toNat ≤ 15 then s.t.seq.toNat else 31 - s.t.seq.toNat
        | .descFirst => if s.t.seq.toNat ≤ 15 then 15 - s.t.seq.toNat else s.t.seq.toNat - 16)

/-- 10_state.md R17, 00_scope.md R1: the outputs of Pulse, Triangle and Noise lie in [0,15], the DMC's in [0,127], in
every state and for every parameter. -/
def Obligations.OutputsStayInRange : Prop :=
  ∀ s : State, outP1 s ≤ 15 ∧ outP2 s ≤ 15 ∧ outT s ≤ 15 ∧ outN s ≤ 15 ∧ outD s ≤ 127

/-- 45_status_and_clocking.md R218: the gate forces a disabled channel's output to 0 under DISABLED_GATE; without the gate,
or enabled, the raw output is published; and for Pulse and Noise the gate changes nothing in a state of the invariant. -/
def Obligations.EnableGateOnOutputs : Prop :=
  ∀ s : State,
    (s.cfg.disabledGate = true →
      (s.en.p1 = false → outP1 s = 0) ∧ (s.en.p2 = false → outP2 s = 0) ∧ (s.en.t = false → outT s = 0) ∧
        (s.en.n = false → outN s = 0) ∧ (s.en.d = false → outD s = 0)) ∧
    (s.cfg.disabledGate = false →
      outP1 s = rawP1 s ∧ outP2 s = rawP2 s ∧ outT s = rawT s ∧ outN s = rawN s ∧ outD s = rawD s) ∧
    (s.en.p1 = true → outP1 s = rawP1 s) ∧ (s.en.p2 = true → outP2 s = rawP2 s) ∧ (s.en.t = true → outT s = rawT s) ∧
    (s.en.n = true → outN s = rawN s) ∧ (s.en.d = true → outD s = rawD s) ∧
    (Inv s → outP1 s = rawP1 s ∧ outP2 s = rawP2 s ∧ outN s = rawN s)

/-- 60_exceptions.md R244: the mixer is 0 when all five inputs are 0, and its output lies in [0.0, 1.0] for all
outputs in their ranges. -/
def Obligations.MixerStaysInUnitRange : Prop :=
  ∀ p1 p2 t n d : Nat, p1 ≤ 15 → p2 ≤ 15 → t ≤ 15 → n ≤ 15 → d ≤ 127 →
    (0 ≤ mixPulse p1 p2 + mixTnd t n d ∧ mixPulse p1 p2 + mixTnd t n d ≤ 1) ∧
    (p1 = 0 → p2 = 0 → t = 0 → n = 0 → d = 0 → mixPulse p1 p2 + mixTnd t n d = 0)

/-! ## Clocking -/

/-- 45_status_and_clocking.md R214, 41_pulse.md R102, R103: a CYCLE that finds apuOdd 1 clocks both Pulse timers, one
that finds it 0 leaves both generators as they are; the phase toggles. -/
def Obligations.CycleClocksPulseTimersOnApuCycles : Prop :=
  ∀ s : State, ∃ t, exec .cycle s = .next t ∧ t.apuOdd = !s.apuOdd ∧
    (s.apuOdd = false → t.p1 = s.p1 ∧ t.p2 = s.p2) ∧
    (s.apuOdd = true →
      t.p1 = (if s.p1.timer = 0 then
          { s.p1 with timer := s.p1.period, seq := BitVec.ofNat 3 ((s.p1.seq.toNat + 7) % 8) }
        else { s.p1 with timer := BitVec.ofNat 11 (s.p1.timer.toNat - 1) }) ∧
      t.p2 = (if s.p2.timer = 0 then
          { s.p2 with timer := s.p2.period, seq := BitVec.ofNat 3 ((s.p2.seq.toNat + 7) % 8) }
        else { s.p2 with timer := BitVec.ofNat 11 (s.p2.timer.toNat - 1) }))

/-- 42_triangle.md R142, R143: every CYCLE clocks the Triangle timer; the sequencer steps when the timer fires, both
counters are non-zero and the period is not a frozen one. -/
def Obligations.CycleClocksTriangle : Prop :=
  ∀ s : State, ∃ t, exec .cycle s = .next t ∧
    t.t = (if s.t.timer = 0 then
        { s.t with
          timer := s.t.period
          seq := if s.t.lin ≠ 0 ∧ s.t.len ≠ 0 ∧ ¬ (s.cfg.triUltrasonic = .halt ∧ s.t.period.toNat < 2) then
            BitVec.ofNat 5 ((s.t.seq.toNat + 1) % 32) else s.t.seq }
      else { s.t with timer := BitVec.ofNat 11 (s.t.timer.toNat - 1) })

/-- 43_noise.md R161, R162, R163: an APU cycle clocks the Noise timer, whose reload is NOISE_PERIOD / 2 - 1; when it fires
the register shifts right with the feedback into bit 14; other CYCLEs leave the generator as it is. -/
def Obligations.CycleClocksNoise : Prop :=
  ∀ s : State, ∃ t, exec .cycle s = .next t ∧
    (s.apuOdd = false → t.n = s.n) ∧
    (s.apuOdd = true →
      t.n = (if s.n.timer = 0 then
          { s.n with
            timer := BitVec.ofNat 11
              ((match s.cfg.region with
                | .ntsc => ([4, 8, 16, 32, 64, 96, 128, 160, 202, 254, 380, 508, 762, 1016, 2034, 4068] : List Nat)
                | .pal => ([4, 8, 14, 30, 60, 88, 118, 148, 188, 236, 354, 472, 708, 944, 1890, 3778] : List Nat)).getD
                  s.n.periodIdx.toNat 0 / 2 - 1)
            lfsr := BitVec.ofNat 15
              (s.n.lfsr.toNat / 2 +
                16384 * ((s.n.lfsr.toNat + s.n.lfsr.toNat / (if s.n.mode then 64 else 2)) % 2)) }
        else { s.n with timer := BitVec.ofNat 11 (s.n.timer.toNat - 1) }))

/-- 44_dmc.md R184: the delta step of an output clock, under both values of DMC_LIMIT. -/
def Obligations.DmcDeltaStep : Prop :=
  ∀ s : State, ∃ t, exec .cycle s = .next t ∧
    (s.d.timer ≠ 0 ∨ s.d.silence = true → t.d.level = s.d.level) ∧
    (s.d.timer = 0 → s.d.silence = false → s.d.shift.toNat % 2 = 1 →
      t.d.level.toNat = if s.d.level.toNat ≤ 125 then s.d.level.toNat + 2
        else if s.cfg.dmcLimit = .saturate then 127 else s.d.level.toNat) ∧
    (s.d.timer = 0 → s.d.silence = false → s.d.shift.toNat % 2 = 0 →
      t.d.level.toNat = if 2 ≤ s.d.level.toNat then s.d.level.toNat - 2
        else if s.cfg.dmcLimit = .saturate then 0 else s.d.level.toNat)

/-- 44_dmc.md R181-R183, R185-R188, 20_memory.md R51: what a CYCLE does to the DMC, its level aside. `m` is the DMC between
its timer and its reader. A timer not at 0 only counts down; at 0 it reloads with DMC_RATE - 1 and clocks the output unit:
the shift, the bit counter, and at the end of an output cycle the silence flag and the move of the buffer. Then the reader
fetches exactly when the buffer is empty and bytes remain, a buffer just emptied included: the byte is the host's where
the host lists one, the address advances with its wrap, and the last byte restarts a looping sample or raises the IRQ. Two
clauses rest on the model's choices: the list of the host's bytes (notes/assumptions/3.md), and the counter of free values,
unchanged where nothing is fetched (notes/assumptions/5.md). The level of `m` is the matter of DmcDeltaStep. -/
def Obligations.CycleClocksDmcThenReadsSample : Prop :=
  ∀ s : State, ∃ (m : Dmc) (t : State), exec .cycle s = .next t ∧
    (s.d.timer ≠ 0 → m = { s.d with timer := BitVec.ofNat 9 (s.d.timer.toNat - 1) }) ∧
    (s.d.timer = 0 →
      m = { s.d with
        timer := BitVec.ofNat 9
          ((match s.cfg.region with
            | .ntsc => ([428, 380, 340, 320, 286, 254, 226, 214, 190, 160, 142, 128, 106, 84, 72, 54] : List Nat)
            | .pal => ([398, 354, 316, 298, 276, 236, 210, 198, 176, 148, 132, 118, 98, 78, 66, 50] : List Nat)).getD
              s.d.rateIdx.toNat 0 - 1)
        level := m.level
        shift := if s.d.bitsLeft.toNat = 1 ∧ s.d.bufEmpty = false then s.d.buffer
          else BitVec.ofNat 8 (s.d.shift.toNat / 2)
        bitsLeft := m.bitsLeft
        silence := if s.d.bitsLeft.toNat = 1 then s.d.bufEmpty else s.d.silence
        bufEmpty := if s.d.bitsLeft.toNat = 1 then true else s.d.bufEmpty } ∧
      (s.d.bitsLeft.toNat = 1 → m.bitsLeft.toNat = 8) ∧
      (2 ≤ s.d.bitsLeft.toNat → m.bitsLeft.toNat = s.d.bitsLeft.toNat - 1)) ∧
    (¬ (m.bufEmpty = true ∧ m.bytesLeft ≠ 0) → t.d = m ∧ t.draws = s.draws) ∧
    (m.bufEmpty = true → m.bytesLeft ≠ 0 →
      (∀ b, s.mem.read m.curAddr.toNat = some b → t.d.buffer = b) ∧
      t.d = { m with
        buffer := t.d.buffer
        bufEmpty := false
        curAddr :=
          if m.bytesLeft.toNat = 1 ∧ m.loop then BitVec.ofNat 16 (0xC000 + 64 * m.addrReg.toNat)
          else if m.curAddr.toNat = 0xFFFF then 0x8000 else BitVec.ofNat 16 (m.curAddr.toNat + 1)
        bytesLeft :=
          if m.bytesLeft.toNat = 1 ∧ m.loop then BitVec.ofNat 12 (16 * m.lenReg.toNat + 1)
          else BitVec.ofNat 12 (m.bytesLeft.toNat - 1)
        irq := if m.bytesLeft.toNat = 1 ∧ m.loop = false ∧ m.irqEn = true then true else m.irq })

/-- 45_status_and_clocking.md R214, 40_common_units.md R89, 20_memory.md R40: what a CYCLE leaves unchanged: the envelopes,
length counters, sweeps and linear counter, the enables, the registers' fields, all of sample memory, and every signal and
environment field. -/
def Obligations.CycleFrame : Prop :=
  ∀ s : State, ∃ t, exec .cycle s = .next t ∧
    t = { s with
      p1 := { s.p1 with timer := t.p1.timer, seq := t.p1.seq }
      p2 := { s.p2 with timer := t.p2.timer, seq := t.p2.seq }
      t := { s.t with timer := t.t.timer, seq := t.t.seq }
      n := { s.n with timer := t.n.timer, lfsr := t.n.lfsr }
      d := { s.d with
        timer := t.d.timer, level := t.d.level, shift := t.d.shift, bitsLeft := t.d.bitsLeft, silence := t.d.silence
        bufEmpty := t.d.bufEmpty, buffer := t.d.buffer, curAddr := t.d.curAddr, bytesLeft := t.d.bytesLeft
        irq := t.d.irq }
      apuOdd := !s.apuOdd
      draws := t.draws }

/-- 45_status_and_clocking.md R215, 40_common_units.md R87, 42_triangle.md R144: a QF clocks the three envelopes and the
linear counter, and nothing else changes. -/
def Obligations.QuarterFrameClocksEnvelopesAndLinearCounter : Prop :=
  ∀ s : State, ∃ e1 e2 en : Envelope,
    exec .qf s = .next
      { s with
        p1 := { s.p1 with env := e1 }
        p2 := { s.p2 with env := e2 }
        n := { s.n with env := en }
        t := { s.t with
          lin := if s.t.linReload then s.t.linLoad
            else if s.t.lin ≠ 0 then BitVec.ofNat 7 (s.t.lin.toNat - 1) else s.t.lin
          linReload := if s.t.ctrl = false then false else s.t.linReload } } ∧
    ∀ x ∈ [(s.p1.env, e1, s.p1.vol, s.p1.halt), (s.p2.env, e2, s.p2.vol, s.p2.halt), (s.n.env, en, s.n.vol, s.n.halt)],
      x.2.1.start = false ∧
      (x.1.start = true → x.2.1.decay = 15 ∧ x.2.1.div = x.2.2.1) ∧
      (x.1.start = false → x.1.div ≠ 0 → x.2.1.div.toNat = x.1.div.toNat - 1 ∧ x.2.1.decay = x.1.decay) ∧
      (x.1.start = false → x.1.div = 0 → x.2.1.div = x.2.2.1 ∧
        (x.1.decay ≠ 0 → x.2.1.decay.toNat = x.1.decay.toNat - 1) ∧
        (x.1.decay = 0 → x.2.1.decay = if x.2.2.2 then 15 else 0))

/-- 45_status_and_clocking.md R216, 40_common_units.md R83: an HF clocks the four length counters, and beside them only the
sweep units change. -/
def Obligations.HalfFrameClocksLengthCounters : Prop :=
  ∀ s : State, ∃ t, exec .hf s = .next t ∧
    t = { s with
      p1 := { s.p1 with
        len := if 0 < s.p1.len.toNat ∧ s.p1.halt = false then BitVec.ofNat 8 (s.p1.len.toNat - 1) else s.p1.len
        period := t.p1.period, swDiv := t.p1.swDiv, swReload := t.p1.swReload }
      p2 := { s.p2 with
        len := if 0 < s.p2.len.toNat ∧ s.p2.halt = false then BitVec.ofNat 8 (s.p2.len.toNat - 1) else s.p2.len
        period := t.p2.period, swDiv := t.p2.swDiv, swReload := t.p2.swReload }
      t := { s.t with
        len := if 0 < s.t.len.toNat ∧ s.t.ctrl = false then BitVec.ofNat 8 (s.t.len.toNat - 1) else s.t.len }
      n := { s.n with
        len := if 0 < s.n.len.toNat ∧ s.n.halt = false then BitVec.ofNat 8 (s.n.len.toNat - 1) else s.n.len } }

/-- 41_pulse.md R106: the sweep clock of an HF, for both Pulse generators; the period written is the target itself. -/
def Obligations.HalfFrameClocksSweeps : Prop :=
  ∀ s : State, ∃ t, exec .hf s = .next t ∧
    ∀ x ∈ [(s.p1, t.p1, PulseId.one), (s.p2, t.p2, PulseId.two)],
      (x.1.swDiv = 0 → x.1.swEn = true → x.1.swShift ≠ 0 → x.1.muted s.cfg.sweepNegateP1 x.2.2 = false →
        x.2.1.period.toNat = x.1.target s.cfg.sweepNegateP1 x.2.2) ∧
      (x.1.swDiv ≠ 0 ∨ x.1.swEn = false ∨ x.1.swShift = 0 ∨ x.1.muted s.cfg.sweepNegateP1 x.2.2 = true →
        x.2.1.period = x.1.period) ∧
      (x.1.swDiv = 0 ∨ x.1.swReload = true → x.2.1.swDiv = x.1.swPeriod ∧ x.2.1.swReload = false) ∧
      (x.1.swDiv ≠ 0 → x.1.swReload = false → x.2.1.swDiv.toNat = x.1.swDiv.toNat - 1 ∧ x.2.1.swReload = false)

/-- 10_state.md R38, 45_status_and_clocking.md R217: RESET sets every core field to its reset value, whatever the state, and
touches nothing of the environment. -/
def Obligations.ResetOperationSetsResetValues : Prop :=
  ∀ s : State,
    exec .reset s = .next
      { s with
        en := ⟨false, false, false, false, false⟩
        apuOdd := false
        p1 := ⟨0, false, false, 0, false, 0, false, 0, false, 0, 0, 0, 0, 0, ⟨false, 0, 0⟩⟩
        p2 := ⟨0, false, false, 0, false, 0, false, 0, false, 0, 0, 0, 0, 0, ⟨false, 0, 0⟩⟩
        t := ⟨false, 0, 0, 0, 0, 0, 0, false⟩
        n := ⟨false, false, 0, false, 0, 0, 1, 0, ⟨false, 0, 0⟩⟩
        d := ⟨false, false, 0, 0, 0, 0, 0, 0xC000, 0, 0, true, 0, 8, true, false⟩ }

/-- 70_reset_and_hazards.md R260: after RESET the IRQ is 0, every published output is 0 under the default DISABLED_GATE, and
the next CYCLE clocks neither Pulse nor Noise. -/
def Obligations.AfterResetSilentAndIdle : Prop :=
  ∀ s : State, s.cfg.disabledGate = true →
    ∃ t u, exec .reset s = .next t ∧ exec .cycle t = .next u ∧ irqLine t = false ∧
      outP1 t = 0 ∧ outP2 t = 0 ∧ outT t = 0 ∧ outN t = 0 ∧ outD t = 0 ∧ u.p1 = t.p1 ∧ u.p2 = t.p2 ∧ u.n = t.n

/-! ## Behaviour over many operations -/

/-- 40_common_units.md R83 and the length property of 95_test_vectors.md §1.1: after k HFs a counter whose halt flag is 0 has
lost k, down to 0 and no further; a halted one is unchanged. -/
def Obligations.LengthCountersAfterManyHalfFrames : Prop :=
  ∀ (k : Nat) (s : State),
    (afterMany .hf k s).p1.len.toNat = (if s.p1.halt then s.p1.len.toNat else s.p1.len.toNat - k) ∧
    (afterMany .hf k s).p2.len.toNat = (if s.p2.halt then s.p2.len.toNat else s.p2.len.toNat - k) ∧
    (afterMany .hf k s).t.len.toNat = (if s.t.ctrl then s.t.len.toNat else s.t.len.toNat - k) ∧
    (afterMany .hf k s).n.len.toNat = (if s.n.halt then s.n.len.toNat else s.n.len.toNat - k)

/-- 40_common_units.md R87: the k-th QF after the one that starts the envelope finds the decay 15 - k / (vol + 1), held at 0
without loop and wrapping to 15 with it. -/
def Obligations.EnvelopeDecayAfterManyQuarterFrames : Prop :=
  ∀ (k : Nat) (s : State),
    (s.p1.env.start = true →
      (afterMany .qf (k + 1) s).p1.env.decay.toNat =
        if s.p1.halt then 15 - k / (s.p1.vol.toNat + 1) % 16 else 15 - k / (s.p1.vol.toNat + 1)) ∧
    (s.p2.env.start = true →
      (afterMany .qf (k + 1) s).p2.env.decay.toNat =
        if s.p2.halt then 15 - k / (s.p2.vol.toNat + 1) % 16 else 15 - k / (s.p2.vol.toNat + 1)) ∧
    (s.n.env.start = true →
      (afterMany .qf (k + 1) s).n.env.decay.toNat =
        if s.n.halt then 15 - k / (s.n.vol.toNat + 1) % 16 else 15 - k / (s.n.vol.toNat + 1))

/-- 42_triangle.md R144: once the reload flag is set, the first QF loads the linear counter; then it counts down to 0 with
T.ctrl = 0, and is reloaded by every QF with T.ctrl = 1. -/
def Obligations.LinearCounterAfterManyQuarterFrames : Prop :=
  ∀ (k : Nat) (s : State), s.t.linReload = true →
    (afterMany .qf (k + 1) s).t.lin.toNat = (if s.t.ctrl then s.t.linLoad.toNat else s.t.linLoad.toNat - k) ∧
    (afterMany .qf (k + 1) s).t.linReload = s.t.ctrl

/-- 42_triangle.md R142, 40_common_units.md R80: with both counters non-zero and the period not frozen, the Triangle steps once every
T.period + 1 CPU cycles, so that 32 × (T.period + 1) cycles bring it back to the same state. -/
def Obligations.TrianglePeriodInCpuCycles : Prop :=
  ∀ (k : Nat) (s : State), s.t.lin ≠ 0 → s.t.len ≠ 0 → ¬ (s.cfg.triUltrasonic = .halt ∧ s.t.period.toNat < 2) →
    s.t.timer.toNat ≤ s.t.period.toNat →
    (afterMany .cycle (k * (s.t.period.toNat + 1)) s).t = { s.t with seq := s.t.seq + BitVec.ofNat 5 k } ∧
    (afterMany .cycle (32 * (s.t.period.toNat + 1)) s).t = s.t

/-- 41_pulse.md R102, R103, 70_reset_and_hazards.md R271: the Pulse sequencers step down once every 2 × (Pn.period + 1) CPU
cycles, so that 16 × (Pn.period + 1) cycles bring a generator back to the same state, muted or not. -/
def Obligations.PulsePeriodInCpuCycles : Prop :=
  ∀ (k : Nat) (s : State),
    (s.p1.timer.toNat ≤ s.p1.period.toNat →
      (afterMany .cycle (k * (2 * (s.p1.period.toNat + 1))) s).p1 = { s.p1 with seq := s.p1.seq - BitVec.ofNat 3 k } ∧
      (afterMany .cycle (16 * (s.p1.period.toNat + 1)) s).p1 = s.p1) ∧
    (s.p2.timer.toNat ≤ s.p2.period.toNat →
      (afterMany .cycle (k * (2 * (s.p2.period.toNat + 1))) s).p2 = { s.p2 with seq := s.p2.seq - BitVec.ofNat 3 k } ∧
      (afterMany .cycle (16 * (s.p2.period.toNat + 1)) s).p2 = s.p2)

/-- 43_noise.md R162, R161: the LFSR is clocked once every NOISE_PERIOD CPU cycles. -/
def Obligations.NoiseClockedOncePerPeriod : Prop :=
  ∀ (k : Nat) (s : State), s.n.timer.toNat < noisePeriod s.cfg.region s.n.periodIdx / 2 →
    (afterMany .cycle (k * noisePeriod s.cfg.region s.n.periodIdx) s).n =
      { s.n with lfsr := (lfsrNext s.n.mode)^[k] s.n.lfsr }

/-- 43_noise.md R163: with mode 0 the register runs through all 32767 non-zero values before it repeats, from any non-zero
start: it first returns to its start after exactly 32767 clocks. -/
def Obligations.LfsrModeZeroHasMaximalPeriod : Prop :=
  ∀ v : BitVec 15, v ≠ 0 →
    (lfsrNext false)^[32767] v = v ∧ (∀ k, 0 < k → k < 32767 → (lfsrNext false)^[k] v ≠ v) ∧
    ∀ u : BitVec 15, u ≠ 0 → ∃ k, k < 32767 ∧ (lfsrNext false)^[k] v = u

/-- 43_noise.md R163: with mode 1, from the start value 1 the register repeats after 93 clocks and not before; from every
non-zero value it is back after 93 clocks; and a non-zero value is never mapped to 0, in either mode. -/
def Obligations.LfsrModeOneRepeatsAfter93 : Prop :=
  ((lfsrNext true)^[93] 1 = 1 ∧ ∀ k, 0 < k → k < 93 → (lfsrNext true)^[k] 1 ≠ 1) ∧
  (∀ v : BitVec 15, (lfsrNext true)^[93] v = v) ∧
  ∀ (m : Bool) (v : BitVec 15), v ≠ 0 → lfsrNext m v ≠ 0

/-- 44_dmc.md R183, R181: the DMC timer fires once every DMC_RATE CPU cycles, whatever the enable flag, the silence flag or
D.bytesLeft say: from a timer of 0, after k cycles of the period it stands at DMC_RATE - k. -/
def Obligations.DmcTimerFiresOncePerRate : Prop :=
  ∀ (k : Nat) (s : State), s.d.timer = 0 → 0 < k → k ≤ dmcRate s.cfg.region s.d.rateIdx →
    (afterMany .cycle k s).d.timer.toNat = dmcRate s.cfg.region s.d.rateIdx - k

/-! ## Rules about the whole machine -/

/-- 60_exceptions.md R230: every operation completes, in every state; and no step ever faults. -/
def Obligations.EveryOperationCompletes : Prop :=
  (∀ (i : Instr) (s : State), ∃ t, exec i s = .next t) ∧ ∀ (s : State) (r : Fault), step s ≠ .fault r

/-- 10_state.md R39: the invariant holds at reset. -/
def Obligations.ResetMeetsTheInvariant : Prop :=
  Inv State.reset

/-- 10_state.md R39: every step keeps the invariant, from every state that meets it. -/
def Obligations.EveryStepKeepsTheInvariant : Prop :=
  ∀ s t : State, Inv s → step s = .next t → Inv t

/-- 60_exceptions.md R231, R232, R234: the core's interrupt output is D.irq; it is set only by a CYCLE, while irqEn is 1 and
the sample does not loop, and cleared only by a $4015 write, a $4010 write with bit 7 = 0, or RESET. -/
def Obligations.DmcIrqSetAndClearedOnlyByItsRules : Prop :=
  ∀ (i : Instr) (s t : State), exec i s = .next t →
    irqLine s = s.d.irq ∧
    (s.d.irq = false → t.d.irq = true → i = .cycle ∧ s.d.irqEn = true ∧ s.d.loop = false ∧ t.d.bytesLeft = 0) ∧
    (s.d.irq = true → t.d.irq = false →
      (∃ d, i = .wrStatus d) ∨ (∃ d, i = .wrDmcCtrl d ∧ bit d 7 = false) ∨ i = .reset)

/-- 40_common_units.md R89, 45_status_and_clocking.md R219: RESET and the register writes that the rules name aside, only a QF
clocks the envelopes and the linear counter, only an HF the length counters and the sweeps, and only a CYCLE the timers, the
sequencers, the LFSR, the phase and the DMC's output unit and reader. 10_state.md R12, R37: only a $4015 write changes the
enable flags. -/
def Obligations.OnlyTheirStrobesClockTheUnits : Prop :=
  ∀ (i : Instr) (s t : State), exec i s = .next t → i ≠ .reset →
    ((∀ d, i ≠ .wrStatus d) → t.en = s.en) ∧
    (i ≠ .qf → t.p1.env.div = s.p1.env.div ∧ t.p1.env.decay = s.p1.env.decay ∧ t.p2.env.div = s.p2.env.div ∧
      t.p2.env.decay = s.p2.env.decay ∧ t.n.env.div = s.n.env.div ∧ t.n.env.decay = s.n.env.decay ∧ t.t.lin = s.t.lin ∧
      ((∀ d, i ≠ .wrP1Thi d) → t.p1.env.start = s.p1.env.start) ∧
      ((∀ d, i ≠ .wrP2Thi d) → t.p2.env.start = s.p2.env.start) ∧
      ((∀ d, i ≠ .wrNoiseLen d) → t.n.env.start = s.n.env.start) ∧
      ((∀ d, i ≠ .wrTriThi d) → t.t.linReload = s.t.linReload)) ∧
    (i ≠ .hf → t.p1.swDiv = s.p1.swDiv ∧ t.p2.swDiv = s.p2.swDiv ∧
      ((∀ d, i ≠ .wrP1Sweep d) → t.p1.swReload = s.p1.swReload) ∧
      ((∀ d, i ≠ .wrP2Sweep d) → t.p2.swReload = s.p2.swReload) ∧
      ((∀ d, i ≠ .wrP1Tlo d ∧ i ≠ .wrP1Thi d) → t.p1.period = s.p1.period) ∧
      ((∀ d, i ≠ .wrP2Tlo d ∧ i ≠ .wrP2Thi d) → t.p2.period = s.p2.period) ∧
      ((∀ d, i ≠ .wrP1Thi d ∧ i ≠ .wrStatus d) → t.p1.len = s.p1.len) ∧
      ((∀ d, i ≠ .wrP2Thi d ∧ i ≠ .wrStatus d) → t.p2.len = s.p2.len) ∧
      ((∀ d, i ≠ .wrTriThi d ∧ i ≠ .wrStatus d) → t.t.len = s.t.len) ∧
      ((∀ d, i ≠ .wrNoiseLen d ∧ i ≠ .wrStatus d) → t.n.len = s.n.len)) ∧
    (i ≠ .cycle → t.p1.timer = s.p1.timer ∧ t.p2.timer = s.p2.timer ∧ t.t.timer = s.t.timer ∧ t.n.timer = s.n.timer ∧
      t.d.timer = s.d.timer ∧ t.t.seq = s.t.seq ∧ t.n.lfsr = s.n.lfsr ∧ t.apuOdd = s.apuOdd ∧
      t.d.shift = s.d.shift ∧ t.d.bitsLeft = s.d.bitsLeft ∧ t.d.buffer = s.d.buffer ∧
      t.d.silence = s.d.silence ∧ t.d.bufEmpty = s.d.bufEmpty ∧
      ((∀ d, i ≠ .wrP1Thi d) → t.p1.seq = s.p1.seq) ∧
      ((∀ d, i ≠ .wrP2Thi d) → t.p2.seq = s.p2.seq) ∧
      ((∀ d, i ≠ .wrDmcLoad d) → t.d.level = s.d.level) ∧
      ((∀ d, i ≠ .wrStatus d) → t.d.curAddr = s.d.curAddr ∧ t.d.bytesLeft = s.d.bytesLeft))

/-- 20_memory.md R40, R45, 60_exceptions.md R233, 00_scope.md R3: no operation of the core writes the sample space, the frame
sequencer, the parameters, the driven openBus or the caller's stream; only a READ changes the answer, and only a $4015 read
raises the strobe. The latched answer, the strobe as a field, the stream and the parameters as fields are the model's choices
(notes/assumptions/6.md, 7.md, 1.md, 2.md): R17 says that none of the signals is core state. -/
def Obligations.CoreLeavesTheOutsideAlone : Prop :=
  ∀ (i : Instr) (s t : State), exec i s = .next t →
    (∀ a, t.mem.read a = s.mem.read a) ∧ t.mem = s.mem ∧ t.frame = s.frame ∧ t.cfg = s.cfg ∧ t.openBus = s.openBus ∧
    t.stream = s.stream ∧ (t.rdata ≠ s.rdata → i = .rdStatus ∨ ∃ a, i = .rdOther a) ∧
    (i ≠ .rdStatus → t.frameIrqClear = s.frameIrqClear)

/-- 20_memory.md R45(b): the register writes it does not list as exceptions are idempotent: the same byte written twice in
a row leaves the same state as written once; a $4015 write is one of them where its bit 4 is 0. -/
def Obligations.PlainRegisterWritesAreIdempotent : Prop :=
  ∀ (d : Byte) (s t : State),
    (∀ i ∈ [Instr.wrP1Ctrl d, .wrP1Tlo d, .wrP2Ctrl d, .wrP2Tlo d, .wrTriLinear d, .wr4009Unused d, .wrTriTlo d,
        .wrNoiseCtrl d, .wr400dUnused d, .wrNoisePeriod d, .wrDmcCtrl d, .wrDmcLoad d, .wrDmcAddr d, .wrDmcLen d],
      exec i s = .next t → exec i t = .next t) ∧
    (bit d 4 = false → exec (.wrStatus d) s = .next t → exec (.wrStatus d) t = .next t)

/-- 70_reset_and_hazards.md R263: enable before length load: with the enable bit 0 a length-loading write leaves a counter of
0 at 0, and a $4015 write first makes the same write load it. -/
def Obligations.EnableBeforeLengthLoad : Prop :=
  ∀ (d e : Byte) (s : State), Inv s →
    (s.en.p1 = false → (after (.wrP1Thi d) s).p1.len = 0) ∧ (s.en.p2 = false → (after (.wrP2Thi d) s).p2.len = 0) ∧
    (s.en.t = false → (after (.wrTriThi d) s).t.len = 0) ∧ (s.en.n = false → (after (.wrNoiseLen d) s).n.len = 0) ∧
    (bit e 0 = true → 0 < (after (.wrP1Thi d) (after (.wrStatus e) s)).p1.len.toNat) ∧
    (bit e 1 = true → 0 < (after (.wrP2Thi d) (after (.wrStatus e) s)).p2.len.toNat) ∧
    (bit e 2 = true → 0 < (after (.wrTriThi d) (after (.wrStatus e) s)).t.len.toNat) ∧
    (bit e 3 = true → 0 < (after (.wrNoiseLen d) (after (.wrStatus e) s)).n.len.toNat)

/-- 70_reset_and_hazards.md R266: a playing sample restarts from its start only by a $4015 write with bit 4 = 0 and then
one with bit 4 = 1; one with bit 4 = 1 alone leaves address and count as they are; the buffered byte stays. -/
def Obligations.DmcRestartNeedsAnIdleDmc : Prop :=
  ∀ (off on : Byte) (s : State), bit off 4 = false → bit on 4 = true → s.d.bytesLeft ≠ 0 →
    (after (.wrStatus on) s).d.curAddr = s.d.curAddr ∧ (after (.wrStatus on) s).d.bytesLeft = s.d.bytesLeft ∧
    (after (.wrStatus on) (after (.wrStatus off) s)).d.curAddr.toNat = 0xC000 + 64 * s.d.addrReg.toNat ∧
    (after (.wrStatus on) (after (.wrStatus off) s)).d.bytesLeft.toNat = 16 * s.d.lenReg.toNat + 1 ∧
    (after (.wrStatus on) (after (.wrStatus off) s)).d.buffer = s.d.buffer ∧
    (after (.wrStatus on) (after (.wrStatus off) s)).d.bufEmpty = s.d.bufEmpty ∧
    (after (.wrStatus on) (after (.wrStatus off) s)).d.shift = s.d.shift

/-- 40_common_units.md R85: a channel whose length counter is 0 is silenced: raw Pulse and Noise are 0, the Triangle does not
step, whatever the halt flag. -/
def Obligations.ZeroLengthSilences : Prop :=
  ∀ s : State,
    (s.p1.len = 0 → rawP1 s = 0) ∧ (s.p2.len = 0 → rawP2 s = 0) ∧ (s.n.len = 0 → rawN s = 0) ∧
    (s.t.len = 0 → ∀ k, (afterMany .cycle k s).t.seq = s.t.seq)

/-- 70_reset_and_hazards.md R262: $00 written to every register in address order after RESET gives the RESET state but for
six flags; no output differs; and after a QF and an HF the two states agree but for the three envelope decay levels. -/
def Obligations.ReplayOfZeroBytesAfterReset : Prop :=
  ∀ s r z : State, r = after .reset s → z = zeroBytes.foldl (fun x i => after i x) r →
    z = { r with
      p1 := { r.p1 with swReload := true, env := { r.p1.env with start := true } }
      p2 := { r.p2 with swReload := true, env := { r.p2.env with start := true } }
      t := { r.t with linReload := true }
      n := { r.n with env := { r.n.env with start := true } } } ∧
    outP1 z = outP1 r ∧ outP2 z = outP2 r ∧ outT z = outT r ∧ outN z = outN r ∧ outD z = outD r ∧
    after .hf (after .qf z) = { after .hf (after .qf r) with
      p1 := { (after .hf (after .qf r)).p1 with env := { (after .hf (after .qf r)).p1.env with decay := 15 } }
      p2 := { (after .hf (after .qf r)).p2 with env := { (after .hf (after .qf r)).p2.env with decay := 15 } }
      n := { (after .hf (after .qf r)).n with env := { (after .hf (after .qf r)).n.env with decay := 15 } } } ∧
    (after .hf (after .qf r)).p1.env.decay = 0 ∧ (after .hf (after .qf r)).p2.env.decay = 0 ∧
    (after .hf (after .qf r)).n.env.decay = 0

/-- 00_scope.md R8: outside CYCLE nothing in the core depends on REGION, and a CYCLE depends on it only in the Noise and
DMC timers. -/
def Obligations.RegionSelectsOnlyThePeriodTables : Prop :=
  ∀ (i : Instr) (s t u : State) (r : Region),
    exec i s = .next t → exec i { s with cfg := { s.cfg with region := r } } = .next u →
    (i ≠ .cycle → u = { t with cfg := { t.cfg with region := r } }) ∧
    u = { t with
      cfg := { t.cfg with region := r }
      n := { t.n with timer := u.n.timer }
      d := { t.d with timer := u.d.timer } }

/-- 60_exceptions.md R244: the mixer's output is the formula applied to the five published outputs, with 0 for a part whose
inputs are all 0; it lies in [0.0, 1.0]; and each row of the rule's table of samples, with the largest inputs beside them, is
its value to six decimals. The formula is taken in exact rationals, which is the model's choice (notes/assumptions/17.md). -/
def Obligations.MixOfOutputsByItsFormula : Prop :=
  ∀ s : State,
    mix s =
      (if outP1 s = 0 ∧ outP2 s = 0 then 0 else 95.88 / (8128 / ((outP1 s : Rat) + outP2 s) + 100)) +
      (if outT s = 0 ∧ outN s = 0 ∧ outD s = 0 then 0
        else 159.79 / (1 / ((outT s : Rat) / 8227 + (outN s : Rat) / 12241 + (outD s : Rat) / 22638) + 100)) ∧
    0 ≤ mix s ∧ mix s ≤ 1 ∧
    ∀ x ∈ [((15, 0, 0, 0, 0), 0.149377), ((8, 0, 0, 0, 0), 0.085914), ((1, 0, 0, 0, 0), 0.011653),
        ((0, 0, 15, 0, 0), 0.246412), ((0, 0, 0, 15, 0), 0.174431), ((0, 0, 0, 0, 127), 0.574264),
        ((0, 0, 0, 0, 64), 0.352179), ((15, 15, 15, 15, 127), (0.999999 : Rat))],
      (outP1 s, outP2 s, outT s, outN s, outD s) = x.1 → |mix s - x.2| ≤ 0.0000005
end

