-- ==== Sys2Proof/Laws/PerInstr.lean ====
section
/-! SUPPORT. Statements about every instruction as syntax, one lemma per constructor. -/

namespace Sys2Proof.Laws

/-- The op of an operation's word (30_encoding.md R61). -/
def opField : Instr → BitVec 3
  | .rdStatus | .rdOther _ => 0b001#3
  | .cycle => 0b010#3
  | .qf => 0b011#3
  | .hf => 0b100#3
  | .reset => 0b101#3
  | .wrP1Ctrl _ | .wrP1Sweep _ | .wrP1Tlo _ | .wrP1Thi _ => 0b000#3
  | .wrP2Ctrl _ | .wrP2Sweep _ | .wrP2Tlo _ | .wrP2Thi _ => 0b000#3
  | .wrTriLinear _ | .wr4009Unused _ | .wrTriTlo _ | .wrTriThi _ => 0b000#3
  | .wrNoiseCtrl _ | .wr400dUnused _ | .wrNoisePeriod _ | .wrNoiseLen _ => 0b000#3
  | .wrDmcCtrl _ | .wrDmcLoad _ | .wrDmcAddr _ | .wrDmcLen _ => 0b000#3
  | .wrStatus _ | .wrOther _ _ => 0b000#3

/-- The bit fields of a packed word are the fields it was packed from. -/
theorem packWord_fields (op : BitVec 3) (a : Addr) (d : Byte) :
    opOf (packWord op a d) = op ∧ rsvOf (packWord op a d) = 0#1 ∧ addrOf (packWord op a d) = a ∧
      dataOf (packWord op a d) = d := by
  refine ⟨?_, ?_, ?_, ?_⟩ <;> apply BitVec.eq_of_getLsbD_eq <;> intro i hi <;>
    simp only [opOf, rsvOf, addrOf, dataOf, packWord, BitVec.getLsbD_extractLsb', BitVec.getLsbD_append] <;>
    (try simp only [hi, decide_true, Bool.true_and]) <;>
    (repeat' split) <;> first | omega | (congr 1; omega)

/-- A word is packed from its own fields (30_encoding.md R60). -/
theorem packWord_of_fields (w : OpWord) (h : rsvOf w = 0#1) : packWord (opOf w) (addrOf w) (dataOf w) = w := by
  rw [packWord, ← h]
  apply BitVec.eq_of_getLsbD_eq
  intro i hi
  simp only [opOf, rsvOf, addrOf, dataOf, BitVec.getLsbD_extractLsb', BitVec.getLsbD_append]
  split
  · simp [*]
  · split
    · next h1 h2 => simp [h2, show 8 + (i - 8) = i by omega]
    · split
      · next h1 h2 h3 => simp [h3, show 24 + (i - 8 - 16) = i by omega]
      · next h1 h2 h3 =>
        have : i - 8 - 16 - 1 < 3 := by omega
        simp [this, show 25 + (i - 8 - 16 - 1) = i by omega]

namespace EncodeFields

/-- An operation's word holds its op and a clear reserved bit (30_encoding.md R60, R61). -/
def Statement (i : Instr) : Prop := opOf (encode i) = opField i ∧ rsvOf (encode i) = 0#1

theorem wrP1Ctrl (d : Byte) : Statement (.wrP1Ctrl d) :=
  ⟨(packWord_fields _ _ _).1, (packWord_fields _ _ _).2.1⟩

theorem wrP1Sweep (d : Byte) : Statement (.wrP1Sweep d) :=
  ⟨(packWord_fields _ _ _).1, (packWord_fields _ _ _).2.1⟩

theorem wrP1Tlo (d : Byte) : Statement (.wrP1Tlo d) :=
  ⟨(packWord_fields _ _ _).1, (packWord_fields _ _ _).2.1⟩

theorem wrP1Thi (d : Byte) : Statement (.wrP1Thi d) :=
  ⟨(packWord_fields _ _ _).1, (packWord_fields _ _ _).2.1⟩

theorem wrP2Ctrl (d : Byte) : Statement (.wrP2Ctrl d) :=
  ⟨(packWord_fields _ _ _).1, (packWord_fields _ _ _).2.1⟩

theorem wrP2Sweep (d : Byte) : Statement (.wrP2Sweep d) :=
  ⟨(packWord_fields _ _ _).1, (packWord_fields _ _ _).2.1⟩

theorem wrP2Tlo (d : Byte) : Statement (.wrP2Tlo d) :=
  ⟨(packWord_fields _ _ _).1, (packWord_fields _ _ _).2.1⟩

theorem wrP2Thi (d : Byte) : Statement (.wrP2Thi d) :=
  ⟨(packWord_fields _ _ _).1, (packWord_fields _ _ _).2.1⟩

theorem wrTriLinear (d : Byte) : Statement (.wrTriLinear d) :=
  ⟨(packWord_fields _ _ _).1, (packWord_fields _ _ _).2.1⟩

theorem wr4009Unused (d : Byte) : Statement (.wr4009Unused d) :=
  ⟨(packWord_fields _ _ _).1, (packWord_fields _ _ _).2.1⟩

theorem wrTriTlo (d : Byte) : Statement (.wrTriTlo d) :=
  ⟨(packWord_fields _ _ _).1, (packWord_fields _ _ _).2.1⟩

theorem wrTriThi (d : Byte) : Statement (.wrTriThi d) :=
  ⟨(packWord_fields _ _ _).1, (packWord_fields _ _ _).2.1⟩

theorem wrNoiseCtrl (d : Byte) : Statement (.wrNoiseCtrl d) :=
  ⟨(packWord_fields _ _ _).1, (packWord_fields _ _ _).2.1⟩

theorem wr400dUnused (d : Byte) : Statement (.wr400dUnused d) :=
  ⟨(packWord_fields _ _ _).1, (packWord_fields _ _ _).2.1⟩

theorem wrNoisePeriod (d : Byte) : Statement (.wrNoisePeriod d) :=
  ⟨(packWord_fields _ _ _).1, (packWord_fields _ _ _).2.1⟩

theorem wrNoiseLen (d : Byte) : Statement (.wrNoiseLen d) :=
  ⟨(packWord_fields _ _ _).1, (packWord_fields _ _ _).2.1⟩

theorem wrDmcCtrl (d : Byte) : Statement (.wrDmcCtrl d) :=
  ⟨(packWord_fields _ _ _).1, (packWord_fields _ _ _).2.1⟩

theorem wrDmcLoad (d : Byte) : Statement (.wrDmcLoad d) :=
  ⟨(packWord_fields _ _ _).1, (packWord_fields _ _ _).2.1⟩

theorem wrDmcAddr (d : Byte) : Statement (.wrDmcAddr d) :=
  ⟨(packWord_fields _ _ _).1, (packWord_fields _ _ _).2.1⟩

theorem wrDmcLen (d : Byte) : Statement (.wrDmcLen d) :=
  ⟨(packWord_fields _ _ _).1, (packWord_fields _ _ _).2.1⟩

theorem wrStatus (d : Byte) : Statement (.wrStatus d) :=
  ⟨(packWord_fields _ _ _).1, (packWord_fields _ _ _).2.1⟩

theorem wrOther (a : Addr) (d : Byte) : Statement (.wrOther a d) :=
  ⟨(packWord_fields _ _ _).1, (packWord_fields _ _ _).2.1⟩

theorem rdStatus : Statement .rdStatus :=
  ⟨(packWord_fields _ _ _).1, (packWord_fields _ _ _).2.1⟩

theorem rdOther (a : Addr) : Statement (.rdOther a) :=
  ⟨(packWord_fields _ _ _).1, (packWord_fields _ _ _).2.1⟩

theorem cycle : Statement .cycle :=
  ⟨(packWord_fields _ _ _).1, (packWord_fields _ _ _).2.1⟩

theorem qf : Statement .qf :=
  ⟨(packWord_fields _ _ _).1, (packWord_fields _ _ _).2.1⟩

theorem hf : Statement .hf :=
  ⟨(packWord_fields _ _ _).1, (packWord_fields _ _ _).2.1⟩

theorem reset : Statement .reset :=
  ⟨(packWord_fields _ _ _).1, (packWord_fields _ _ _).2.1⟩

end EncodeFields

end Sys2Proof.Laws
end

