-- ==== Sys2Proof/Laws/Decode.lean ====
section
/-! SUPPORT. The lemmas of the decoder: fields of a word as numbers, and what a WRITE selects. -/

namespace Sys2Proof.Laws

open Sys2Proof.Safety

/-- The fields of a word by arithmetic (30_encoding.md R60). -/
theorem fields_toNat (w : OpWord) :
    (opOf w).toNat = wordOp w ∧ (rsvOf w).toNat = wordRsv w ∧ (addrOf w).toNat = wordAddr w ∧
      (dataOf w).toNat = wordData w := by
  have := w.isLt
  refine ⟨?_, ?_, ?_, ?_⟩ <;>
    simp [opOf, rsvOf, addrOf, dataOf, wordOp, wordRsv, wordAddr, wordData, Nat.shiftRight_eq_div_pow]
  omega

/-- A packed word by arithmetic (30_encoding.md R60). -/
theorem packWord_eq_ofNat (op : BitVec 3) (a : Addr) (d : Byte) :
    packWord op a d = BitVec.ofNat 28 (op.toNat * 2 ^ 25 + 256 * a.toNat + d.toNat) := by
  apply BitVec.eq_of_toNat_eq
  have := op.isLt
  have := a.isLt
  have := d.isLt
  simp only [packWord, BitVec.toNat_append]
  rw [← Nat.shiftLeft_add_eq_or_of_lt d.isLt, ← Nat.shiftLeft_add_eq_or_of_lt a.isLt,
    ← Nat.shiftLeft_add_eq_or_of_lt (by decide)]
  simp [Nat.shiftLeft_eq]
  omega

/-- Outside the window a WRITE is WR_OTHER (30_encoding.md R63). -/
theorem decodeWrite_other {a : Addr} (d : Byte) (h : inWindow a = false) : decodeWrite a d = .wrOther a d := by
  unfold decodeWrite
  iterate 21 refine (if_neg (fun e => by subst e; revert h; decide)).trans ?_
  rfl

/-- A property that holds at the 21 addresses of the window holds at every address of it (10_state.md R19). -/
theorem inWindow_cases {P : Addr → Prop} (h20 : ∀ k, k < 20 → P (BitVec.ofNat 16 (0x4000 + k))) (h15 : P 0x4015#16)
    (a : Addr) (h : inWindow a = true) : P a := by
  simp only [inWindow, Bool.or_eq_true, Bool.and_eq_true, decide_eq_true_eq, beq_iff_eq, BitVec.le_def,
    BitVec.toNat_ofNat] at h
  rcases h with ⟨h1, h2⟩ | rfl
  · have hk : a = BitVec.ofNat 16 (0x4000 + (a.toNat - 0x4000)) := by
      apply BitVec.eq_of_toNat_eq
      have := a.isLt
      simp
      omega
    rw [hk]
    exact h20 _ (by omega)
  · exact h15

end Sys2Proof.Laws
end

