-- ==== Sys2Proof/Laws/State.lean ====
section
/-! SUPPORT. One lemma per field per update of State, each true by rfl, so that no proof unfolds an update. -/

namespace Sys2Proof.Machine

@[simp] theorem State.setP1_cfg (s : State) (x : Pulse) : (s.setP1 x).cfg = s.cfg := rfl
@[simp] theorem State.setP1_p1 (s : State) (x : Pulse) : (s.setP1 x).p1 = x := rfl
@[simp] theorem State.setP1_p2 (s : State) (x : Pulse) : (s.setP1 x).p2 = s.p2 := rfl
@[simp] theorem State.setP1_t (s : State) (x : Pulse) : (s.setP1 x).t = s.t := rfl
@[simp] theorem State.setP1_n (s : State) (x : Pulse) : (s.setP1 x).n = s.n := rfl
@[simp] theorem State.setP1_d (s : State) (x : Pulse) : (s.setP1 x).d = s.d := rfl
@[simp] theorem State.setP1_en (s : State) (x : Pulse) : (s.setP1 x).en = s.en := rfl
@[simp] theorem State.setP1_apuOdd (s : State) (x : Pulse) : (s.setP1 x).apuOdd = s.apuOdd := rfl
@[simp] theorem State.setP1_rdata (s : State) (x : Pulse) : (s.setP1 x).rdata = s.rdata := rfl
@[simp] theorem State.setP1_frameIrqClear (s : State) (x : Pulse) : (s.setP1 x).frameIrqClear = s.frameIrqClear := rfl
@[simp] theorem State.setP1_openBus (s : State) (x : Pulse) : (s.setP1 x).openBus = s.openBus := rfl
@[simp] theorem State.setP1_frame (s : State) (x : Pulse) : (s.setP1 x).frame = s.frame := rfl
@[simp] theorem State.setP1_mem (s : State) (x : Pulse) : (s.setP1 x).mem = s.mem := rfl
@[simp] theorem State.setP1_draws (s : State) (x : Pulse) : (s.setP1 x).draws = s.draws := rfl
@[simp] theorem State.setP1_stream (s : State) (x : Pulse) : (s.setP1 x).stream = s.stream := rfl

@[simp] theorem State.setP2_cfg (s : State) (x : Pulse) : (s.setP2 x).cfg = s.cfg := rfl
@[simp] theorem State.setP2_p1 (s : State) (x : Pulse) : (s.setP2 x).p1 = s.p1 := rfl
@[simp] theorem State.setP2_p2 (s : State) (x : Pulse) : (s.setP2 x).p2 = x := rfl
@[simp] theorem State.setP2_t (s : State) (x : Pulse) : (s.setP2 x).t = s.t := rfl
@[simp] theorem State.setP2_n (s : State) (x : Pulse) : (s.setP2 x).n = s.n := rfl
@[simp] theorem State.setP2_d (s : State) (x : Pulse) : (s.setP2 x).d = s.d := rfl
@[simp] theorem State.setP2_en (s : State) (x : Pulse) : (s.setP2 x).en = s.en := rfl
@[simp] theorem State.setP2_apuOdd (s : State) (x : Pulse) : (s.setP2 x).apuOdd = s.apuOdd := rfl
@[simp] theorem State.setP2_rdata (s : State) (x : Pulse) : (s.setP2 x).rdata = s.rdata := rfl
@[simp] theorem State.setP2_frameIrqClear (s : State) (x : Pulse) : (s.setP2 x).frameIrqClear = s.frameIrqClear := rfl
@[simp] theorem State.setP2_openBus (s : State) (x : Pulse) : (s.setP2 x).openBus = s.openBus := rfl
@[simp] theorem State.setP2_frame (s : State) (x : Pulse) : (s.setP2 x).frame = s.frame := rfl
@[simp] theorem State.setP2_mem (s : State) (x : Pulse) : (s.setP2 x).mem = s.mem := rfl
@[simp] theorem State.setP2_draws (s : State) (x : Pulse) : (s.setP2 x).draws = s.draws := rfl
@[simp] theorem State.setP2_stream (s : State) (x : Pulse) : (s.setP2 x).stream = s.stream := rfl

@[simp] theorem State.setT_cfg (s : State) (x : Triangle) : (s.setT x).cfg = s.cfg := rfl
@[simp] theorem State.setT_p1 (s : State) (x : Triangle) : (s.setT x).p1 = s.p1 := rfl
@[simp] theorem State.setT_p2 (s : State) (x : Triangle) : (s.setT x).p2 = s.p2 := rfl
@[simp] theorem State.setT_t (s : State) (x : Triangle) : (s.setT x).t = x := rfl
@[simp] theorem State.setT_n (s : State) (x : Triangle) : (s.setT x).n = s.n := rfl
@[simp] theorem State.setT_d (s : State) (x : Triangle) : (s.setT x).d = s.d := rfl
@[simp] theorem State.setT_en (s : State) (x : Triangle) : (s.setT x).en = s.en := rfl
@[simp] theorem State.setT_apuOdd (s : State) (x : Triangle) : (s.setT x).apuOdd = s.apuOdd := rfl
@[simp] theorem State.setT_rdata (s : State) (x : Triangle) : (s.setT x).rdata = s.rdata := rfl
@[simp] theorem State.setT_frameIrqClear (s : State) (x : Triangle) : (s.setT x).frameIrqClear = s.frameIrqClear := rfl
@[simp] theorem State.setT_openBus (s : State) (x : Triangle) : (s.setT x).openBus = s.openBus := rfl
@[simp] theorem State.setT_frame (s : State) (x : Triangle) : (s.setT x).frame = s.frame := rfl
@[simp] theorem State.setT_mem (s : State) (x : Triangle) : (s.setT x).mem = s.mem := rfl
@[simp] theorem State.setT_draws (s : State) (x : Triangle) : (s.setT x).draws = s.draws := rfl
@[simp] theorem State.setT_stream (s : State) (x : Triangle) : (s.setT x).stream = s.stream := rfl

@[simp] theorem State.setN_cfg (s : State) (x : Noise) : (s.setN x).cfg = s.cfg := rfl
@[simp] theorem State.setN_p1 (s : State) (x : Noise) : (s.setN x).p1 = s.p1 := rfl
@[simp] theorem State.setN_p2 (s : State) (x : Noise) : (s.setN x).p2 = s.p2 := rfl
@[simp] theorem State.setN_t (s : State) (x : Noise) : (s.setN x).t = s.t := rfl
@[simp] theorem State.setN_n (s : State) (x : Noise) : (s.setN x).n = x := rfl
@[simp] theorem State.setN_d (s : State) (x : Noise) : (s.setN x).d = s.d := rfl
@[simp] theorem State.setN_en (s : State) (x : Noise) : (s.setN x).en = s.en := rfl
@[simp] theorem State.setN_apuOdd (s : State) (x : Noise) : (s.setN x).apuOdd = s.apuOdd := rfl
@[simp] theorem State.setN_rdata (s : State) (x : Noise) : (s.setN x).rdata = s.rdata := rfl
@[simp] theorem State.setN_frameIrqClear (s : State) (x : Noise) : (s.setN x).frameIrqClear = s.frameIrqClear := rfl
@[simp] theorem State.setN_openBus (s : State) (x : Noise) : (s.setN x).openBus = s.openBus := rfl
@[simp] theorem State.setN_frame (s : State) (x : Noise) : (s.setN x).frame = s.frame := rfl
@[simp] theorem State.setN_mem (s : State) (x : Noise) : (s.setN x).mem = s.mem := rfl
@[simp] theorem State.setN_draws (s : State) (x : Noise) : (s.setN x).draws = s.draws := rfl
@[simp] theorem State.setN_stream (s : State) (x : Noise) : (s.setN x).stream = s.stream := rfl

@[simp] theorem State.setD_cfg (s : State) (x : Dmc) : (s.setD x).cfg = s.cfg := rfl
@[simp] theorem State.setD_p1 (s : State) (x : Dmc) : (s.setD x).p1 = s.p1 := rfl
@[simp] theorem State.setD_p2 (s : State) (x : Dmc) : (s.setD x).p2 = s.p2 := rfl
@[simp] theorem State.setD_t (s : State) (x : Dmc) : (s.setD x).t = s.t := rfl
@[simp] theorem State.setD_n (s : State) (x : Dmc) : (s.setD x).n = s.n := rfl
@[simp] theorem State.setD_d (s : State) (x : Dmc) : (s.setD x).d = x := rfl
@[simp] theorem State.setD_en (s : State) (x : Dmc) : (s.setD x).en = s.en := rfl
@[simp] theorem State.setD_apuOdd (s : State) (x : Dmc) : (s.setD x).apuOdd = s.apuOdd := rfl
@[simp] theorem State.setD_rdata (s : State) (x : Dmc) : (s.setD x).rdata = s.rdata := rfl
@[simp] theorem State.setD_frameIrqClear (s : State) (x : Dmc) : (s.setD x).frameIrqClear = s.frameIrqClear := rfl
@[simp] theorem State.setD_openBus (s : State) (x : Dmc) : (s.setD x).openBus = s.openBus := rfl
@[simp] theorem State.setD_frame (s : State) (x : Dmc) : (s.setD x).frame = s.frame := rfl
@[simp] theorem State.setD_mem (s : State) (x : Dmc) : (s.setD x).mem = s.mem := rfl
@[simp] theorem State.setD_draws (s : State) (x : Dmc) : (s.setD x).draws = s.draws := rfl
@[simp] theorem State.setD_stream (s : State) (x : Dmc) : (s.setD x).stream = s.stream := rfl

end Sys2Proof.Machine
end

