-- ==== Sys2Proof/Laws/Exec.lean ====
section
/-! SUPPORT. What each operation's next state is, in the terms of the shared operations, and what a CYCLE does to each field. -/

namespace Sys2Proof.Machine

open Sys2Proof.Safety

/-- Every operation answers a next state, the one `after` names (60_exceptions.md R230). -/
theorem exec_eq_after (i : Instr) (s : State) : exec i s = .next (after i s) := by cases i <;> rfl

/-- The next state of an operation is the one `after` names. -/
theorem next_eq_after {i : Instr} {s t : State} (h : exec i s = .next t) : t = after i s := by
  rw [exec_eq_after] at h; exact (Host.Outcome.next.inj h).symm

@[simp] theorem after_wrP1Ctrl (d : Byte) (s : State) : after (.wrP1Ctrl d) s = s.setP1 (s.p1.writeCtrl d) := rfl
@[simp] theorem after_wrP1Sweep (d : Byte) (s : State) : after (.wrP1Sweep d) s = s.setP1 (s.p1.writeSweep d) := rfl
@[simp] theorem after_wrP1Tlo (d : Byte) (s : State) : after (.wrP1Tlo d) s = s.setP1 (s.p1.writeTimerLow d) := rfl
@[simp] theorem after_wrP1Thi (d : Byte) (s : State) : after (.wrP1Thi d) s = s.setP1 (s.p1.writeTimerHigh s.en.p1 d) := rfl
@[simp] theorem after_wrP2Ctrl (d : Byte) (s : State) : after (.wrP2Ctrl d) s = s.setP2 (s.p2.writeCtrl d) := rfl
@[simp] theorem after_wrP2Sweep (d : Byte) (s : State) : after (.wrP2Sweep d) s = s.setP2 (s.p2.writeSweep d) := rfl
@[simp] theorem after_wrP2Tlo (d : Byte) (s : State) : after (.wrP2Tlo d) s = s.setP2 (s.p2.writeTimerLow d) := rfl
@[simp] theorem after_wrP2Thi (d : Byte) (s : State) : after (.wrP2Thi d) s = s.setP2 (s.p2.writeTimerHigh s.en.p2 d) := rfl
@[simp] theorem after_wrTriLinear (d : Byte) (s : State) : after (.wrTriLinear d) s = s.setT (s.t.writeLinear d) := rfl
@[simp] theorem after_wr4009Unused (d : Byte) (s : State) : after (.wr4009Unused d) s = s := rfl
@[simp] theorem after_wrTriTlo (d : Byte) (s : State) : after (.wrTriTlo d) s = s.setT (s.t.writeTimerLow d) := rfl
@[simp] theorem after_wrTriThi (d : Byte) (s : State) : after (.wrTriThi d) s = s.setT (s.t.writeTimerHigh s.en.t d) := rfl
@[simp] theorem after_wrNoiseCtrl (d : Byte) (s : State) : after (.wrNoiseCtrl d) s = s.setN (s.n.writeCtrl d) := rfl
@[simp] theorem after_wr400dUnused (d : Byte) (s : State) : after (.wr400dUnused d) s = s := rfl
@[simp] theorem after_wrNoisePeriod (d : Byte) (s : State) : after (.wrNoisePeriod d) s = s.setN (s.n.writePeriod d) := rfl
@[simp] theorem after_wrNoiseLen (d : Byte) (s : State) : after (.wrNoiseLen d) s = s.setN (s.n.writeLength s.en.n d) := rfl
@[simp] theorem after_wrDmcCtrl (d : Byte) (s : State) : after (.wrDmcCtrl d) s = s.setD (s.d.writeCtrl d) := rfl
@[simp] theorem after_wrDmcLoad (d : Byte) (s : State) : after (.wrDmcLoad d) s = s.setD (s.d.writeLoad d) := rfl
@[simp] theorem after_wrDmcAddr (d : Byte) (s : State) : after (.wrDmcAddr d) s = s.setD { s.d with addrReg := d } := rfl
@[simp] theorem after_wrDmcLen (d : Byte) (s : State) : after (.wrDmcLen d) s = s.setD { s.d with lenReg := d } := rfl
@[simp] theorem after_wrOther (a : Addr) (d : Byte) (s : State) : after (.wrOther a d) s = s := rfl
@[simp] theorem after_rdOther (a : Addr) (s : State) : after (.rdOther a) s = { s with rdata := none } := rfl
@[simp] theorem after_cycle (s : State) : after .cycle s = cycleState s := rfl
@[simp] theorem after_wrStatus (d : Byte) (s : State) : after (.wrStatus d) s =
    { s with
      en := enablesOf d
      p1 := { s.p1 with len := lengthEnable (bitOf d 0) s.p1.len }
      p2 := { s.p2 with len := lengthEnable (bitOf d 1) s.p2.len }
      t := { s.t with len := lengthEnable (bitOf d 2) s.t.len }
      n := { s.n with len := lengthEnable (bitOf d 3) s.n.len }
      d := s.d.writeEnable (bitOf d 4) } := rfl
@[simp] theorem after_rdStatus (s : State) : after .rdStatus s =
    { s with
      rdata := some (statusByte s s.frame.irq (openBusValue s)), frameIrqClear := true
      draws := drawsAfterOpenBus s } := rfl
@[simp] theorem after_qf (s : State) : after .qf s =
    { s with
      p1 := s.p1.envelopeClock, p2 := s.p2.envelopeClock, n := s.n.envelopeClock, t := s.t.linearClock } := rfl
@[simp] theorem after_hf (s : State) : after .hf s =
    { s with
      p1 := (s.p1.lengthClock).sweepClock s.cfg.sweepNegateP1 .one
      p2 := (s.p2.lengthClock).sweepClock s.cfg.sweepNegateP1 .two
      t := s.t.lengthClock, n := s.n.lengthClock } := rfl
@[simp] theorem after_reset (s : State) : after .reset s =
    { s with
      p1 := Pulse.reset, p2 := Pulse.reset, t := Triangle.reset, n := Noise.reset, d := Dmc.reset
      en := Enables.reset, apuOdd := false } := rfl

/-- The state after an operation that answers `t`. -/
theorem after_of_exec {i : Instr} {s t : State} (h : exec i s = .next t) : after i s = t := by simp [after, nextOf, h]

/-- A step with an operation word at the head of the stream issues that word. -/
theorem step_op {s : State} {w : OpWord} {rest : List Event} (h : s.stream = .op w :: rest) :
    step s = issueWord w { s with stream := rest } := by simp [step, runStream, runEvent, h]

/-- A step with CLOCK at the head of the stream. -/
theorem step_clock {s : State} {k : Nat} {rest : List Event} (h : s.stream = .clock k :: rest) :
    step s = .next (runClock k { s with stream := rest }) := by simp [step, runStream, runEvent, h]

/-- A step with a host write at the head of the stream. -/
theorem step_hostWrite {s : State} {a : Addr} {b : Byte} {rest : List Event} (h : s.stream = .hostWrite a b :: rest) :
    step s = .next (runHostWrite a b { s with stream := rest }) := by simp [step, runStream, runEvent, h]

/-- A step with a change of openBus at the head of the stream. -/
theorem step_openBus {s : State} {b : Option Byte} {rest : List Event} (h : s.stream = .openBus b :: rest) :
    step s = .next (runOpenBus b { s with stream := rest }) := by simp [step, runStream, runEvent, h]

/-- A step with an empty stream. -/
theorem step_idle {s : State} (h : s.stream = []) : step s = .next s := by simp [step, runStream, h]

/-- The DMC just before the reader of a CYCLE. -/
def dmcBeforeReader (s : State) : Dmc := s.d.timerClock s.cfg.region s.cfg.dmcLimit

/-- The state just before the reader of a CYCLE. -/
def beforeReader (s : State) : State := dmcTimer (toggleApu (apuTimers (triangleTimer s)))

@[simp] theorem beforeReader_p1 (s : State) :
    (beforeReader s).p1 = if s.apuOdd then s.p1.timerClock else s.p1 := by
  cases h : s.apuOdd <;> simp [beforeReader, dmcTimer, toggleApu, apuTimers, triangleTimer, h]

@[simp] theorem beforeReader_p2 (s : State) :
    (beforeReader s).p2 = if s.apuOdd then s.p2.timerClock else s.p2 := by
  cases h : s.apuOdd <;> simp [beforeReader, dmcTimer, toggleApu, apuTimers, triangleTimer, h]

@[simp] theorem beforeReader_n (s : State) :
    (beforeReader s).n = if s.apuOdd then s.n.timerClock s.cfg.region else s.n := by
  cases h : s.apuOdd <;> simp [beforeReader, dmcTimer, toggleApu, apuTimers, triangleTimer, h]

@[simp] theorem beforeReader_t (s : State) : (beforeReader s).t = s.t.timerClock s.cfg.triUltrasonic := by
  cases h : s.apuOdd <;> simp [beforeReader, dmcTimer, toggleApu, apuTimers, triangleTimer, h]

@[simp] theorem beforeReader_d (s : State) : (beforeReader s).d = dmcBeforeReader s := by
  cases h : s.apuOdd <;> simp [beforeReader, dmcBeforeReader, dmcTimer, toggleApu, apuTimers, triangleTimer, h]

@[simp] theorem beforeReader_apuOdd (s : State) : (beforeReader s).apuOdd = !s.apuOdd := by
  cases h : s.apuOdd <;> simp [beforeReader, dmcTimer, toggleApu, apuTimers, triangleTimer, h]

@[simp] theorem beforeReader_cfg (s : State) : (beforeReader s).cfg = s.cfg := by
  cases h : s.apuOdd <;> simp [beforeReader, dmcTimer, toggleApu, apuTimers, triangleTimer, h]

@[simp] theorem beforeReader_en (s : State) : (beforeReader s).en = s.en := by
  cases h : s.apuOdd <;> simp [beforeReader, dmcTimer, toggleApu, apuTimers, triangleTimer, h]

@[simp] theorem beforeReader_rdata (s : State) : (beforeReader s).rdata = s.rdata := by
  cases h : s.apuOdd <;> simp [beforeReader, dmcTimer, toggleApu, apuTimers, triangleTimer, h]

@[simp] theorem beforeReader_frameIrqClear (s : State) : (beforeReader s).frameIrqClear = s.frameIrqClear := by
  cases h : s.apuOdd <;> simp [beforeReader, dmcTimer, toggleApu, apuTimers, triangleTimer, h]

@[simp] theorem beforeReader_openBus (s : State) : (beforeReader s).openBus = s.openBus := by
  cases h : s.apuOdd <;> simp [beforeReader, dmcTimer, toggleApu, apuTimers, triangleTimer, h]

@[simp] theorem beforeReader_frame (s : State) : (beforeReader s).frame = s.frame := by
  cases h : s.apuOdd <;> simp [beforeReader, dmcTimer, toggleApu, apuTimers, triangleTimer, h]

@[simp] theorem beforeReader_mem (s : State) : (beforeReader s).mem = s.mem := by
  cases h : s.apuOdd <;> simp [beforeReader, dmcTimer, toggleApu, apuTimers, triangleTimer, h]

@[simp] theorem beforeReader_draws (s : State) : (beforeReader s).draws = s.draws := by
  cases h : s.apuOdd <;> simp [beforeReader, dmcTimer, toggleApu, apuTimers, triangleTimer, h]

@[simp] theorem beforeReader_stream (s : State) : (beforeReader s).stream = s.stream := by
  cases h : s.apuOdd <;> simp [beforeReader, dmcTimer, toggleApu, apuTimers, triangleTimer, h]

/-- What the reader can do: nothing, or one fetch (44_dmc.md R186). -/
theorem dmcReader_cases (s : State) :
    (s.d.wantsFetch = false ∧ dmcReader s = s) ∨
    (s.d.wantsFetch = true ∧ dmcReader s =
      { s with d := s.d.fetched (memAnswer s s.d.curAddr), draws := drawsAfterFetch s s.d.curAddr }) := by
  cases h : s.d.wantsFetch <;> simp [dmcReader, h]

theorem cycleState_eq (s : State) : cycleState s = dmcReader (beforeReader s) := rfl

@[simp] theorem cycleState_cfg (s : State) : (cycleState s).cfg = s.cfg := by
  rcases dmcReader_cases (beforeReader s) with h | h <;> simp [cycleState_eq, h.2]

@[simp] theorem cycleState_p1 (s : State) : (cycleState s).p1 = (if s.apuOdd then s.p1.timerClock else s.p1) := by
  rcases dmcReader_cases (beforeReader s) with h | h <;> simp [cycleState_eq, h.2]

@[simp] theorem cycleState_p2 (s : State) : (cycleState s).p2 = (if s.apuOdd then s.p2.timerClock else s.p2) := by
  rcases dmcReader_cases (beforeReader s) with h | h <;> simp [cycleState_eq, h.2]

@[simp] theorem cycleState_t (s : State) : (cycleState s).t = s.t.timerClock s.cfg.triUltrasonic := by
  rcases dmcReader_cases (beforeReader s) with h | h <;> simp [cycleState_eq, h.2]

@[simp] theorem cycleState_n (s : State) : (cycleState s).n = (if s.apuOdd then s.n.timerClock s.cfg.region else s.n) := by
  rcases dmcReader_cases (beforeReader s) with h | h <;> simp [cycleState_eq, h.2]

@[simp] theorem cycleState_en (s : State) : (cycleState s).en = s.en := by
  rcases dmcReader_cases (beforeReader s) with h | h <;> simp [cycleState_eq, h.2]

@[simp] theorem cycleState_apuOdd (s : State) : (cycleState s).apuOdd = !s.apuOdd := by
  rcases dmcReader_cases (beforeReader s) with h | h <;> simp [cycleState_eq, h.2]

@[simp] theorem cycleState_rdata (s : State) : (cycleState s).rdata = s.rdata := by
  rcases dmcReader_cases (beforeReader s) with h | h <;> simp [cycleState_eq, h.2]

@[simp] theorem cycleState_frameIrqClear (s : State) : (cycleState s).frameIrqClear = s.frameIrqClear := by
  rcases dmcReader_cases (beforeReader s) with h | h <;> simp [cycleState_eq, h.2]

@[simp] theorem cycleState_openBus (s : State) : (cycleState s).openBus = s.openBus := by
  rcases dmcReader_cases (beforeReader s) with h | h <;> simp [cycleState_eq, h.2]

@[simp] theorem cycleState_frame (s : State) : (cycleState s).frame = s.frame := by
  rcases dmcReader_cases (beforeReader s) with h | h <;> simp [cycleState_eq, h.2]

@[simp] theorem cycleState_mem (s : State) : (cycleState s).mem = s.mem := by
  rcases dmcReader_cases (beforeReader s) with h | h <;> simp [cycleState_eq, h.2]

@[simp] theorem cycleState_stream (s : State) : (cycleState s).stream = s.stream := by
  rcases dmcReader_cases (beforeReader s) with h | h <;> simp [cycleState_eq, h.2]

/-- The DMC after a CYCLE (44_dmc.md R183-R188). -/
theorem cycleState_d (s : State) :
    (cycleState s).d =
      if (dmcBeforeReader s).wantsFetch then
        (dmcBeforeReader s).fetched (memAnswer (beforeReader s) (dmcBeforeReader s).curAddr)
      else dmcBeforeReader s := by
  rcases dmcReader_cases (beforeReader s) with h | h <;>
    (simp only [beforeReader_d] at h; simp [cycleState_eq, h.1, h.2])

end Sys2Proof.Machine
end

