-- ==== Sys2Proof/Laws/Fields.lean ====
section
/-! SUPPORT. The operand forms as numbers: what the provers need to read a field of a data byte by arithmetic. -/

namespace Sys2Proof.Machine

open Sys2Proof.Safety

/-- A bit of a data byte by arithmetic. -/
theorem bitOf_eq_bit (d : Byte) (k : Nat) : bitOf d k = bit d k := by
  rw [Bool.eq_iff_iff]
  simp [bitOf, bit, BitVec.getLsbD, Nat.testBit, Nat.shiftRight_eq_div_pow]

/-- A field of a data byte by arithmetic. -/
theorem fieldOf_eq_bits (d : Byte) (lo w : Nat) : fieldOf d lo w = BitVec.ofNat w (bits d lo w) := by
  apply BitVec.eq_of_toNat_eq
  simp [fieldOf, bits, Nat.shiftRight_eq_div_pow]

/-- A timer-low write by arithmetic. -/
theorem withPeriodLow_eq (p : BitVec 11) (d : Byte) : withPeriodLow p d = period11 (p.toNat / 256) d.toNat := by
  apply BitVec.eq_of_toNat_eq
  have hp := p.isLt
  have hd := d.isLt
  simp only [withPeriodLow, period11, BitVec.toNat_append, BitVec.extractLsb'_toNat, BitVec.toNat_ofNat,
    Nat.shiftRight_eq_div_pow]
  rw [← Nat.shiftLeft_add_eq_or_of_lt hd, Nat.shiftLeft_eq]
  omega

/-- A timer-high write by arithmetic. -/
theorem withPeriodHigh_eq (p : BitVec 11) (d : Byte) : withPeriodHigh p d = period11 (bits d 0 3) (p.toNat % 256) := by
  apply BitVec.eq_of_toNat_eq
  have hp := p.isLt
  have hd := d.isLt
  have hlow : p.toNat % 256 < 2 ^ 8 := by omega
  simp only [withPeriodHigh, fieldOf, period11, bits, BitVec.toNat_append, BitVec.extractLsb'_toNat, BitVec.toNat_ofNat,
    Nat.shiftRight_eq_div_pow, Nat.pow_zero, Nat.div_one]
  rw [show p.toNat % 2 ^ 8 = p.toNat % 256 from rfl, ← Nat.shiftLeft_add_eq_or_of_lt hlow, Nat.shiftLeft_eq]
  omega

/-- Every entry of LENGTH_TABLE is at least 2 and at most 254. -/
theorem lengthOf_range (i : BitVec 5) : 2 ≤ (lengthOf i).toNat ∧ (lengthOf i).toNat ≤ 254 := by
  revert i; decide

/-- Every reload value of the noise timer is exact and lies in 1..2033. -/
theorem noisePeriod_even (r : Region) (p : BitVec 4) :
    noisePeriod r p % 2 = 0 ∧ 4 ≤ noisePeriod r p ∧ noisePeriod r p ≤ 4068 := by
  cases r <;> revert p <;> decide

/-- Every DMC rate lies in 50..428. -/
theorem dmcRate_range (r : Region) (i : BitVec 4) : 50 ≤ dmcRate r i ∧ dmcRate r i ≤ 428 := by
  cases r <;> revert i <;> decide

end Sys2Proof.Machine
end

