-- ==== Sys2Proof/Laws/Memory.lean ====
section
/-! SUPPORT. The laws of the sample memory: a read after a write, and the canonical form kept. -/

namespace Sys2Proof.Machine

/-- A read of the written address gives the written byte. -/
@[simp] theorem Memory.read_write_same (m : Memory) (a : Nat) (v : Byte) : (m.write a v).read a = some v := by
  induction m with
  | nil => simp [Memory.write, Memory.read]
  | cons c m ih =>
    obtain ⟨b, u⟩ := c
    unfold Memory.write
    split
    · simp [Memory.read]
    · split
      · simp [Memory.read]
      · simp [Memory.read, *]

/-- A write leaves every other address alone. -/
theorem Memory.read_write_other (m : Memory) (a x : Nat) (v : Byte) (h : x ≠ a) : (m.write a v).read x = m.read x := by
  induction m with
  | nil => simp [Memory.write, Memory.read, h]
  | cons c m ih =>
    obtain ⟨b, u⟩ := c
    unfold Memory.write
    split
    · simp [Memory.read, h]
    · split
      · next hab => subst hab; simp [Memory.read, h]
      · simp [Memory.read, ih]

/-- A write at or above the bound keeps the form. -/
theorem Memory.wfFrom_write (m : Memory) (lo a : Nat) (v : Byte) (hlo : lo ≤ a) (ha : a < 65536)
    (h : Memory.wfFrom lo m = true) : Memory.wfFrom lo (m.write a v) = true := by
  induction m generalizing lo with
  | nil => simp [Memory.write, Memory.wfFrom, hlo, ha]
  | cons c m ih =>
    obtain ⟨b, u⟩ := c
    simp only [Memory.wfFrom, Bool.and_eq_true, decide_eq_true_eq] at h
    obtain ⟨⟨h1, h2⟩, h3⟩ := h
    unfold Memory.write
    split
    · next hab => simp [Memory.wfFrom, hlo, ha, h2, h3, Nat.succ_le_of_lt hab]
    · next hab =>
      split
      · next hb => subst hb; simp [Memory.wfFrom, h1, h2, h3]
      · next hb => simp [Memory.wfFrom, h1, h2, ih (b + 1) (by omega) h3]

/-- Every write of a 16-bit address keeps the canonical form. -/
theorem Memory.wf_write (m : Memory) (a : Addr) (v : Byte) (h : m.wf = true) : (m.write a.toNat v).wf = true :=
  Memory.wfFrom_write m 0 a.toNat v (Nat.zero_le _) a.isLt h

/-- The empty memory has the canonical form. -/
@[simp] theorem Memory.wf_nil : Memory.wf [] = true := rfl

/-- A fetch of a listed address answers the host's byte. -/
theorem memAnswer_listed (s : State) (a : Addr) (b : Byte) (h : s.mem.read a.toNat = some b) : memAnswer s a = b := by
  simp [memAnswer, h]

/-- A READ finds the driven value of `openBus`. -/
theorem openBusValue_driven (s : State) (b : Byte) (h : s.openBus = some b) : openBusValue s = b := by
  simp [openBusValue, h]

end Sys2Proof.Machine
end

