-- ==== Sys2Proof/Laws/Units.lean ====
section
/-! SUPPORT. One lemma per shared unit that says once what its clock can do. -/

namespace Sys2Proof.Machine

/-- A divider at 0 reloads and fires (40_common_units.md R80). -/
@[simp] theorem clockDivider_zero {w : Nat} (p : BitVec w) : clockDivider 0#w p = (p, true) := by simp [clockDivider]

/-- A divider above 0 counts down and does not fire (40_common_units.md R80). -/
theorem clockDivider_pos {w : Nat} (c p : BitVec w) (h : c ≠ 0#w) : clockDivider c p = (c - 1#w, false) := by
  simp [clockDivider, h]

/-- Taking one off a counter above 0, as a number (40_common_units.md R90). -/
theorem toNat_pred {w : Nat} (c : BitVec w) (h : c ≠ 0#w) : (c - 1#w).toNat = c.toNat - 1 := by
  have hw : 0 < w := by
    rcases Nat.eq_zero_or_pos w with rfl | hw
    · exact absurd (BitVec.of_length_zero) h
    · exact hw
  have hc : c.toNat ≠ 0 := fun h0 => h (BitVec.eq_of_toNat_eq (by simpa using h0))
  have h1 : (1#w).toNat = 1 := by
    rw [BitVec.toNat_ofNat]; exact Nat.mod_eq_of_lt (Nat.one_lt_two_pow (by omega))
  rw [BitVec.toNat_sub_of_le (by rw [BitVec.le_def, h1]; omega), h1]

/-- The length counter after an HF, as a number (40_common_units.md R83). -/
theorem lengthClock_toNat (halt : Bool) (len : BitVec 8) :
    (lengthClock halt len).toNat = if halt then len.toNat else len.toNat - 1 := by
  unfold lengthClock
  by_cases h : len = 0#8
  · subst h; cases halt <;> simp
  · cases halt
    · rw [if_pos ⟨h, rfl⟩, toNat_pred _ h]; rfl
    · simp

/-- An LFSR clock as a number (43_noise.md R163). -/
theorem lfsrNext_toNat (m : Bool) (v : BitVec 15) :
    (lfsrNext m v).toNat = v.toNat / 2 + 16384 * ((v.toNat + v.toNat / (if m then 64 else 2)) % 2) := by
  have hb : ∀ k, v.getLsbD k = decide (v.toNat / 2 ^ k % 2 = 1) := fun k => by
    rw [Bool.eq_iff_iff]
    simp [BitVec.getLsbD, Nat.testBit, Nat.shiftRight_eq_div_pow]
  have hv := v.isLt
  have hlow : v.toNat / 2 % 2 ^ 14 < 2 ^ 14 := Nat.mod_lt _ (by decide)
  simp only [lfsrNext, BitVec.toNat_append, BitVec.extractLsb'_toNat, Nat.shiftRight_eq_div_pow, pow_one]
  rw [← Nat.shiftLeft_add_eq_or_of_lt hlow, Nat.shiftLeft_eq]
  have key : ∀ a b : Nat, (BitVec.ofBool (decide (a % 2 = 1) ^^ decide (b % 2 = 1))).toNat = (a + b) % 2 := by
    intro a b
    rcases Nat.mod_two_eq_zero_or_one a with ha | ha <;> rcases Nat.mod_two_eq_zero_or_one b with hb | hb <;>
      simp [ha, hb, Nat.add_mod]
  cases m <;> simp only [hb, if_true, if_false, Bool.false_eq_true, Nat.pow_zero, Nat.div_one, pow_one] <;>
    rw [key] <;> norm_num <;> omega

/-- An LFSR clock never gives 0 from a value that is not 0 (43_noise.md R163). -/
theorem lfsrNext_ne_zero (m : Bool) (v : BitVec 15) (h : v ≠ 0#15) : lfsrNext m v ≠ 0#15 := by
  intro h0
  have h1 := lfsrNext_toNat m v
  rw [h0] at h1
  have h2 : v.toNat ≠ 0 := fun h0 => h (BitVec.eq_of_toNat_eq (by simpa using h0))
  have h3 : v.toNat = 1 := by simp at h1; omega
  rw [h3] at h1
  cases m <;> simp at h1

/-- The address counter stays in the sample space (20_memory.md R46). -/
theorem advanceAddress_ge (a : Addr) (h : 0x8000 ≤ a.toNat) : 0x8000 ≤ (advanceAddress a).toNat := by
  unfold advanceAddress
  split
  · decide
  · next hne =>
    have : a.toNat ≠ 0xFFFF := fun h0 => hne (BitVec.eq_of_toNat_eq (by simpa using h0))
    have := a.isLt
    rw [BitVec.toNat_add]
    simp
    omega

/-- The restart address, as a number (44_dmc.md R182). -/
theorem Dmc.restart_curAddr (d : Dmc) : d.restart.curAddr.toNat = 0xC000 + 64 * d.addrReg.toNat := by
  have := d.addrReg.isLt
  simp [Dmc.restart, BitVec.toNat_add, Nat.shiftLeft_eq]
  omega

/-- The restart length, as a number (44_dmc.md R182). -/
theorem Dmc.restart_bytesLeft (d : Dmc) : d.restart.bytesLeft.toNat = 16 * d.lenReg.toNat + 1 := by
  have := d.lenReg.isLt
  simp [Dmc.restart, BitVec.toNat_add, Nat.shiftLeft_eq]
  omega

/-- What the output cycle does to the bit counter (44_dmc.md R185). -/
theorem Dmc.shiftClock_bitsLeft (d : Dmc) (h : 1 ≤ d.bitsLeft.toNat ∧ d.bitsLeft.toNat ≤ 8) :
    1 ≤ d.shiftClock.bitsLeft.toNat ∧ d.shiftClock.bitsLeft.toNat ≤ 8 := by
  have h0 : d.bitsLeft ≠ 0#4 := fun h0 => by simp [h0] at h
  unfold Dmc.shiftClock
  split
  · next hb =>
    have hb' : (d.bitsLeft - 1#4).toNat ≠ 0 := fun h1 => hb (BitVec.eq_of_toNat_eq (by simpa using h1))
    rw [toNat_pred _ h0] at hb'
    simp only [toNat_pred _ h0]
    omega
  · split <;> simp

/-- The fields an output clock leaves alone (44_dmc.md R184, R185). -/
theorem Dmc.outputClock_frame (l : DmcLimit) (d : Dmc) :
    (d.outputClock l).irqEn = d.irqEn ∧ (d.outputClock l).loop = d.loop ∧ (d.outputClock l).rateIdx = d.rateIdx ∧
    (d.outputClock l).addrReg = d.addrReg ∧ (d.outputClock l).lenReg = d.lenReg ∧ (d.outputClock l).timer = d.timer ∧
    (d.outputClock l).curAddr = d.curAddr ∧ (d.outputClock l).bytesLeft = d.bytesLeft ∧
    (d.outputClock l).buffer = d.buffer ∧ (d.outputClock l).irq = d.irq := by
  unfold Dmc.outputClock Dmc.shiftClock
  split
  · simp
  · split <;> simp

/-- The fields a DMC timer clock leaves alone (44_dmc.md R183-R185). -/
theorem Dmc.timerClock_frame (r : Region) (l : DmcLimit) (d : Dmc) :
    (d.timerClock r l).irqEn = d.irqEn ∧ (d.timerClock r l).loop = d.loop ∧ (d.timerClock r l).rateIdx = d.rateIdx ∧
    (d.timerClock r l).addrReg = d.addrReg ∧ (d.timerClock r l).lenReg = d.lenReg ∧
    (d.timerClock r l).curAddr = d.curAddr ∧ (d.timerClock r l).bytesLeft = d.bytesLeft ∧
    (d.timerClock r l).buffer = d.buffer ∧ (d.timerClock r l).irq = d.irq ∧
    (d.timerClock r l).timer = (clockDivider d.timer (dmcReload r d.rateIdx)).1 := by
  unfold Dmc.timerClock
  split
  · have h := Dmc.outputClock_frame l { d with timer := (clockDivider d.timer (dmcReload r d.rateIdx)).1 }
    exact ⟨h.1, h.2.1, h.2.2.1, h.2.2.2.1, h.2.2.2.2.1, h.2.2.2.2.2.2.1, h.2.2.2.2.2.2.2.1, h.2.2.2.2.2.2.2.2.1,
      h.2.2.2.2.2.2.2.2.2, h.2.2.2.2.2.1⟩
  · simp

/-- The fields a fetch leaves alone (44_dmc.md R186-R188). -/
theorem Dmc.fetched_frame (b : Byte) (d : Dmc) :
    (d.fetched b).irqEn = d.irqEn ∧ (d.fetched b).loop = d.loop ∧ (d.fetched b).rateIdx = d.rateIdx ∧
    (d.fetched b).addrReg = d.addrReg ∧ (d.fetched b).lenReg = d.lenReg ∧ (d.fetched b).timer = d.timer ∧
    (d.fetched b).level = d.level ∧ (d.fetched b).shift = d.shift ∧ (d.fetched b).bitsLeft = d.bitsLeft ∧
    (d.fetched b).silence = d.silence ∧ (d.fetched b).buffer = b ∧ (d.fetched b).bufEmpty = false := by
  unfold Dmc.fetched Dmc.endOfSample
  split
  · split
    · simp [Dmc.restart]
    · split <;> simp
  · simp

/-- A Pulse timer clock as one update: only the timer and the sequencer can change (41_pulse.md R102, R103). -/
theorem Pulse.timerClock_eq (p : Pulse) :
    p.timerClock = { p with
      timer := (clockDivider p.timer p.period).1
      seq := if (clockDivider p.timer p.period).2 then p.seq - 1#3 else p.seq } := by
  unfold Pulse.timerClock
  split <;> simp_all [Pulse.sequencerStep]

/-- The fields a $4015 write leaves alone in the DMC (45_status_and_clocking.md R210; 44_dmc.md R182). -/
theorem Dmc.writeEnable_frame (on : Bool) (d : Dmc) :
    (d.writeEnable on).irqEn = d.irqEn ∧ (d.writeEnable on).loop = d.loop ∧ (d.writeEnable on).rateIdx = d.rateIdx ∧
    (d.writeEnable on).level = d.level ∧ (d.writeEnable on).addrReg = d.addrReg ∧
    (d.writeEnable on).lenReg = d.lenReg ∧ (d.writeEnable on).timer = d.timer ∧
    (d.writeEnable on).buffer = d.buffer ∧ (d.writeEnable on).bufEmpty = d.bufEmpty ∧
    (d.writeEnable on).shift = d.shift ∧ (d.writeEnable on).bitsLeft = d.bitsLeft ∧
    (d.writeEnable on).silence = d.silence ∧ (d.writeEnable on).irq = false := by
  unfold Dmc.writeEnable
  cases on
  · simp
  · by_cases h : d.bytesLeft = 0#12 <;> simp [h, Dmc.restart]

/-- What a DMC timer clock does to the bit counter (44_dmc.md R183, R185). -/
theorem Dmc.timerClock_bitsLeft (r : Region) (l : DmcLimit) (d : Dmc)
    (h : 1 ≤ d.bitsLeft.toNat ∧ d.bitsLeft.toNat ≤ 8) :
    1 ≤ (d.timerClock r l).bitsLeft.toNat ∧ (d.timerClock r l).bitsLeft.toNat ≤ 8 := by
  unfold Dmc.timerClock
  split
  · exact Dmc.shiftClock_bitsLeft _ h
  · exact h

/-- Where a fetch leaves the address and the count (44_dmc.md R182, R186-R188). -/
theorem Dmc.fetched_cases (b : Byte) (d : Dmc) :
    (d.bytesLeft = 1#12 ∧ d.loop = true ∧ (d.fetched b).curAddr = d.restart.curAddr ∧
      (d.fetched b).bytesLeft = d.restart.bytesLeft ∧ (d.fetched b).irq = d.irq) ∨
    ((d.fetched b).curAddr = advanceAddress d.curAddr ∧ (d.fetched b).bytesLeft = d.bytesLeft - 1#12 ∧
      ((d.fetched b).irq = d.irq ∨ (d.bytesLeft = 1#12 ∧ d.loop = false ∧ d.irqEn = true ∧ (d.fetched b).irq = true))) := by
  have h1 : d.bytesLeft - 1#12 = 0#12 ↔ d.bytesLeft = 1#12 := by bv_omega
  unfold Dmc.fetched Dmc.endOfSample
  split
  · next h =>
    split
    · next hl => exact .inl ⟨h1.mp h, hl, rfl, rfl, rfl⟩
    · next hl =>
      split
      · next hi => exact .inr ⟨rfl, rfl, .inr ⟨h1.mp h, by simpa using hl, hi, rfl⟩⟩
      · exact .inr ⟨rfl, rfl, .inl rfl⟩
  · exact .inr ⟨rfl, rfl, .inl rfl⟩

/-- A loaded or kept length counter is at most 254 (10_state.md R39(f)). -/
theorem lengthLoad_le (e : Bool) (d : Byte) (l : BitVec 8) (h : l.toNat ≤ 254) : (lengthLoad e d l).toNat ≤ 254 := by
  have table : ∀ i : BitVec 5, (lengthOf i).toNat ≤ 254 := by decide
  cases e
  · exact h
  · exact table _

/-- A length clock keeps the bound (10_state.md R39(f)). -/
theorem lengthClock_le (e : Bool) (l : BitVec 8) (h : l.toNat ≤ 254) : (lengthClock e l).toNat ≤ 254 := by
  rw [lengthClock_toNat]; split <;> omega

/-- The Noise reload value is at most 2033 (43_noise.md R162). -/
theorem noiseReload_le (r : Region) (p : BitVec 4) : (noiseReload r p).toNat ≤ 2033 := by
  revert p; cases r <;> decide

/-- The DMC reload value is at most 427 (44_dmc.md R183). -/
theorem dmcReload_le (r : Region) (p : BitVec 4) : (dmcReload r p).toNat ≤ 427 := by
  revert p; cases r <;> decide

/-- A divider stays under a bound of its counter and its reload value (40_common_units.md R80). -/
theorem clockDivider_le {w n : Nat} (c p : BitVec w) (h : c.toNat ≤ n) (hp : p.toNat ≤ n) :
    (clockDivider c p).1.toNat ≤ n := by
  by_cases h0 : c = 0#w
  · subst h0; simpa using hp
  · rw [clockDivider_pos _ _ h0]
    simp only [toNat_pred _ h0]
    omega

/-- The restart procedure as one update with numbers (44_dmc.md R182). -/
theorem Dmc.restart_eq (d : Dmc) :
    d.restart = { d with
      curAddr := BitVec.ofNat 16 (0xC000 + 64 * d.addrReg.toNat)
      bytesLeft := BitVec.ofNat 12 (16 * d.lenReg.toNat + 1) } := by
  have h1 := d.addrReg.isLt
  have h2 := d.lenReg.isLt
  have a : d.restart.curAddr = BitVec.ofNat 16 (0xC000 + 64 * d.addrReg.toNat) := by
    apply BitVec.eq_of_toNat_eq; rw [Dmc.restart_curAddr]; simp; omega
  have b : d.restart.bytesLeft = BitVec.ofNat 12 (16 * d.lenReg.toNat + 1) := by
    apply BitVec.eq_of_toNat_eq; rw [Dmc.restart_bytesLeft]; simp; omega
  rw [← a, ← b]; rfl

end Sys2Proof.Machine
end

