-- ==== Sys2Proof/Tests/Slice0.lean ====
section
/-! SUPPORT. Small tests: ill-formed terms, one word per constructor written out from the spec's encoding, one or two steps per
operation with results from the spec's examples, and witnesses that the hypotheses of the statements can be met. -/

namespace Sys2Proof.Tests

open Sys2Proof.Machine
open Sys2Proof.Safety

/-! ## Well-formedness (30_encoding.md R63, R64) -/

theorem test_wf_refuses_wrOther_first : (Instr.wrOther 0x4000 0x00).wf = false := by decide
theorem test_wf_refuses_wrOther_last : (Instr.wrOther 0x4013 0x00).wf = false := by decide
theorem test_wf_refuses_wrOther_status : (Instr.wrOther 0x4015 0x00).wf = false := by decide
theorem test_wf_refuses_rdOther_status : (Instr.rdOther 0x4015).wf = false := by decide
theorem test_wf_allows_wrOther_gap : (Instr.wrOther 0x4014 0x00).wf = true := by decide
theorem test_wf_allows_rdOther_window : (Instr.rdOther 0x4000).wf = true := by decide

/-! ## Decoding: {op, rsv, addr, data} written out (30_encoding.md R60, R61, R63, R64) -/

theorem test_decode_wrP1Ctrl : decode 0b000_0_0100000000000000_10111111#28 = .ok (.wrP1Ctrl 0xBF) := by decide
theorem test_decode_wrP1Sweep : decode 0b000_0_0100000000000001_00001000#28 = .ok (.wrP1Sweep 0x08) := by decide
theorem test_decode_wrP1Tlo : decode 0b000_0_0100000000000010_11111101#28 = .ok (.wrP1Tlo 0xFD) := by decide
theorem test_decode_wrP1Thi : decode 0b000_0_0100000000000011_00001000#28 = .ok (.wrP1Thi 0x08) := by decide
theorem test_decode_wrP2Ctrl : decode 0b000_0_0100000000000100_00110000#28 = .ok (.wrP2Ctrl 0x30) := by decide
theorem test_decode_wrP2Sweep : decode 0b000_0_0100000000000101_10001001#28 = .ok (.wrP2Sweep 0x89) := by decide
theorem test_decode_wrP2Tlo : decode 0b000_0_0100000000000110_00000001#28 = .ok (.wrP2Tlo 0x01) := by decide
theorem test_decode_wrP2Thi : decode 0b000_0_0100000000000111_10000000#28 = .ok (.wrP2Thi 0x80) := by decide
theorem test_decode_wrTriLinear : decode 0b000_0_0100000000001000_10000001#28 = .ok (.wrTriLinear 0x81) := by decide
theorem test_decode_wr4009Unused : decode 0b000_0_0100000000001001_11111111#28 = .ok (.wr4009Unused 0xFF) := by decide
theorem test_decode_wrTriTlo : decode 0b000_0_0100000000001010_00000001#28 = .ok (.wrTriTlo 0x01) := by decide
theorem test_decode_wrTriThi : decode 0b000_0_0100000000001011_00001000#28 = .ok (.wrTriThi 0x08) := by decide
theorem test_decode_wrNoiseCtrl : decode 0b000_0_0100000000001100_00111111#28 = .ok (.wrNoiseCtrl 0x3F) := by decide
theorem test_decode_wr400dUnused : decode 0b000_0_0100000000001101_00010010#28 = .ok (.wr400dUnused 0x12) := by decide
theorem test_decode_wrNoisePeriod : decode 0b000_0_0100000000001110_10001111#28 = .ok (.wrNoisePeriod 0x8F) := by decide
theorem test_decode_wrNoiseLen : decode 0b000_0_0100000000001111_00011000#28 = .ok (.wrNoiseLen 0x18) := by decide
theorem test_decode_wrDmcCtrl : decode 0b000_0_0100000000010000_00001111#28 = .ok (.wrDmcCtrl 0x0F) := by decide
theorem test_decode_wrDmcLoad : decode 0b000_0_0100000000010001_11111111#28 = .ok (.wrDmcLoad 0xFF) := by decide
theorem test_decode_wrDmcAddr : decode 0b000_0_0100000000010010_11111111#28 = .ok (.wrDmcAddr 0xFF) := by decide
theorem test_decode_wrDmcLen : decode 0b000_0_0100000000010011_11111111#28 = .ok (.wrDmcLen 0xFF) := by decide
theorem test_decode_wrStatus : decode 0b000_0_0100000000010101_00000001#28 = .ok (.wrStatus 0x01) := by decide
theorem test_decode_wrOther : decode 0b000_0_0100000000010111_11000000#28 = .ok (.wrOther 0x4017 0xC0) := by decide
theorem test_decode_rdStatus : decode 0b001_0_0100000000010101_00000000#28 = .ok .rdStatus := by decide
theorem test_decode_rdOther : decode 0b001_0_0100000000000000_00000000#28 = .ok (.rdOther 0x4000) := by decide
theorem test_decode_cycle : decode 0b010_0_0000000000000000_00000000#28 = .ok .cycle := by decide
theorem test_decode_qf : decode 0b011_0_0000000000000000_00000000#28 = .ok .qf := by decide
theorem test_decode_hf : decode 0b100_0_0000000000000000_00000000#28 = .ok .hf := by decide
theorem test_decode_reset : decode 0b101_0_0000000000000000_00000000#28 = .ok .reset := by decide
theorem test_decode_reserved_op : decode 0xC000000#28 = .error .reservedOp ∧ decode 0xE000000#28 = .error .reservedOp := by
  decide
theorem test_decode_reserved_bit : decode 0x1400000#28 = .error .reservedBit := by decide
theorem test_decode_read_data : decode 0x2401501#28 = .error .readData := by decide
theorem test_decode_control_field : decode 0x4000001#28 = .error .controlField ∧
    decode 0x4000100#28 = .error .controlField := by decide
/-- The bits a table row may leave above the word are no part of it. -/
theorem test_decodeTableWord : decodeTableWord 32 0x2401500 = some .rdStatus := by decide

/-! ## Steps of each operation (the examples of the rules named) -/

/-- All channels enabled. -/
def enabled : State := { State.reset with en := ⟨true, true, true, true, true⟩ }

/-- R108. -/
theorem test_wrP1Ctrl : (after (.wrP1Ctrl 0xBF) State.reset).p1 =
    { Pulse.reset with duty := 2, halt := true, constVol := true, vol := 15 } := by decide
/-- R109. -/
theorem test_wrP1Sweep : (after (.wrP1Sweep 0x08) State.reset).p1 =
    { Pulse.reset with swNeg := true, swReload := true } := by decide
/-- R110. -/
theorem test_wrP1Tlo : (after (.wrP1Tlo 0) { enabled with p1 := { Pulse.reset with period := 0x3FF } }).p1.period = 0x300 := by
  decide
/-- R111. -/
theorem test_wrP1Thi : (after (.wrP1Thi 0x08) { enabled with p1 := { Pulse.reset with period := 0x7FD, seq := 5 } }).p1 =
    { Pulse.reset with len := 254, period := 0x0FD, env := ⟨true, 0, 0⟩ } := by decide
/-- R111: a load while disabled is ignored. -/
theorem test_wrP1Thi_disabled : (after (.wrP1Thi 0x0F) State.reset).p1 =
    { Pulse.reset with period := 0x700, env := ⟨true, 0, 0⟩ } := by decide
/-- R112. -/
theorem test_wrP2Ctrl : (after (.wrP2Ctrl 0x30) State.reset).p2 = { Pulse.reset with halt := true, constVol := true } := by
  decide
/-- R113. -/
theorem test_wrP2Sweep : (after (.wrP2Sweep 0x89) State.reset).p2 =
    { Pulse.reset with swEn := true, swNeg := true, swShift := 1, swReload := true } := by decide
/-- R114, as R110. -/
theorem test_wrP2Tlo : (after (.wrP2Tlo 0) { enabled with p2 := { Pulse.reset with period := 0x3FF } }).p2.period = 0x300 := by
  decide
/-- R115, as R111; only Pulse2's enable flag counts. -/
theorem test_wrP2Thi : (after (.wrP2Thi 0x08) { State.reset with en := ⟨false, true, false, false, false⟩ }).p2 =
    { Pulse.reset with len := 254, env := ⟨true, 0, 0⟩ } := by decide
/-- R146. -/
theorem test_wrTriLinear : (after (.wrTriLinear 0x81) State.reset).t = { Triangle.reset with ctrl := true, linLoad := 1 } := by
  decide
/-- R147. -/
theorem test_wrTriTlo : (after (.wrTriTlo 0x01) State.reset).t.period = 1 := by decide
/-- R148. -/
theorem test_wrTriThi : (after (.wrTriThi 0x08) enabled).t = { Triangle.reset with len := 254, linReload := true } := by decide
/-- R149. -/
theorem test_wr4009Unused : after (.wr4009Unused 0xFF) enabled = enabled := by decide
/-- R165. -/
theorem test_wrNoiseCtrl : (after (.wrNoiseCtrl 0x3F) State.reset).n =
    { Noise.reset with halt := true, constVol := true, vol := 15 } := by decide
/-- R166. -/
theorem test_wr400dUnused : after (.wr400dUnused 0x12) enabled = enabled := by decide
/-- R167. -/
theorem test_wrNoisePeriod : (after (.wrNoisePeriod 0x8F) State.reset).n = { Noise.reset with mode := true, periodIdx := 15 } := by
  decide
/-- R161, R167: that index is 4068 CPU cycles for NTSC. -/
theorem test_noisePeriod : noisePeriod .ntsc 15 = 4068 := by decide
/-- R168. -/
theorem test_wrNoiseLen : (after (.wrNoiseLen 0x18) enabled).n = { Noise.reset with len := 2, env := ⟨true, 0, 0⟩ } := by decide
/-- R190. -/
theorem test_wrDmcCtrl : (after (.wrDmcCtrl 0x0F) { enabled with d := { Dmc.reset with irq := true, irqEn := true } }).d =
    { Dmc.reset with rateIdx := 15 } := by decide
/-- R191. -/
theorem test_wrDmcLoad : (after (.wrDmcLoad 0xFF) State.reset).d.level = 127 := by decide
/-- R192, R182: the next sample starts at $FFC0. -/
theorem test_wrDmcAddr : (after (.wrDmcAddr 0xFF) State.reset).d.restart.curAddr = 0xFFC0 := by decide
/-- R193, R182: the next sample is 4081 bytes long. -/
theorem test_wrDmcLen : (after (.wrDmcLen 0xFF) State.reset).d.restart.bytesLeft = 4081 := by decide
/-- R210: enables Pulse1 alone, clears the other counters and the DMC. -/
theorem test_wrStatus :
    let s := after (.wrStatus 0x01)
      { enabled with
        p1 := { Pulse.reset with len := 3 }, p2 := { Pulse.reset with len := 3 }, t := { Triangle.reset with len := 3 }
        d := { Dmc.reset with bytesLeft := 5, irq := true } }
    s.en = ⟨true, false, false, false, false⟩ ∧ s.p1.len = 3 ∧ s.p2.len = 0 ∧ s.t.len = 0 ∧ s.d = Dmc.reset := by decide
/-- R210, R182: starts an idle DMC. -/
theorem test_wrStatus_starts_dmc :
    (after (.wrStatus 0x10) { enabled with d := { Dmc.reset with addrReg := 0x01, lenReg := 0x01 } }).d =
      { Dmc.reset with addrReg := 0x01, lenReg := 0x01, curAddr := 0xC040, bytesLeft := 17 } := by decide
/-- R212. -/
theorem test_wrOther : after (.wrOther 0x4018 0xFF) enabled = enabled := by decide
/-- R211: the example answers $81. -/
theorem test_rdStatus :
    let s := after .rdStatus
      { enabled with
        p1 := { Pulse.reset with len := 254 }, d := { Dmc.reset with irq := true }, openBus := some 0x40 }
    s.rdata = some 0x81 ∧ s.frameIrqClear = true := by decide
/-- R213. -/
theorem test_rdOther : (after (.rdOther 0x4000) { enabled with rdata := some 0x81 }).rdata = none := by decide
/-- R142: with period 0 and both counters non-zero the index advances on every CYCLE. -/
theorem test_cycle_triangle :
    (after .cycle { enabled with t := { Triangle.reset with lin := 1, len := 1, seq := 31 } }).t.seq = 0 := by decide
/-- R163: from $0001 one clock gives $4000. -/
theorem test_cycle_noise : (after .cycle { enabled with apuOdd := true }).n.lfsr = 0x4000 := by decide
/-- R215: one QF restarts the envelope. -/
theorem test_qf_envelope :
    (after .qf { enabled with p1 := { Pulse.reset with vol := 4, env := ⟨true, 0, 0⟩ } }).p1.env = ⟨false, 4, 15⟩ := by decide
/-- R144: a QF reloads the linear counter and clears the flag. -/
theorem test_qf_linear :
    (after .qf { enabled with t := { Triangle.reset with linLoad := 2, linReload := true } }).t =
      { Triangle.reset with linLoad := 2, lin := 2 } := by decide
/-- R216, R83: a length of 1 goes to 0. -/
theorem test_hf_length : (after .hf { enabled with p1 := { Pulse.reset with len := 1 } }).p1.len = 0 := by decide
/-- R106: the example sweeps $100 up to $180. -/
theorem test_hf_sweep :
    (after .hf { enabled with p2 := { Pulse.reset with period := 0x100, swEn := true, swShift := 1 } }).p2 =
      { Pulse.reset with period := 0x180, swEn := true, swShift := 1 } := by decide
/-- R217, R38. -/
theorem test_reset :
    let s := after .reset { enabled with d := { Dmc.reset with bytesLeft := 5, bufEmpty := false, curAddr := 0x8000 } }
    s.n.lfsr = 1 ∧ s.d.curAddr = 0xC000 ∧ s.d.bufEmpty = true ∧ s.d.bitsLeft = 8 ∧ s.en.d = false := by decide
/-- R186: after a restart to $C000 the next CYCLE fetches the byte there. -/
theorem test_fetch :
    (dmcReader { enabled with mem := [(0xC000, 0xAA)], d := { Dmc.reset with bytesLeft := 2 } }).d =
      { Dmc.reset with buffer := 0xAA, bufEmpty := false, curAddr := 0xC001, bytesLeft := 1 } := by decide
/-- R104: $100 shifted by 1 with negate gives $07F for Pulse1 and $080 for Pulse2. -/
theorem test_target :
    let p := { Pulse.reset with period := 0x100, swShift := 1, swNeg := true }
    p.target .ones .one = 0x07F ∧ p.target .ones .two = 0x080 := by decide
/-- R107: the example answers 9, and 0 one step on. -/
theorem test_pulse_output :
    let p := { Pulse.reset with len := 10, period := 0x100, swNeg := true, swShift := 1, duty := 3, constVol := true, vol := 9 }
    p.raw .ones .one = 9 ∧ Pulse.raw .ones .one { p with seq := 1 } = 0 := by decide
/-- R240: $C0 to $4017 sets both bits and issues QF, HF. -/
theorem test_write4017 :
    let s := react (.wrOther 0x4017 0xC0) { enabled with frame := ⟨false, false, 77, true⟩ }
    s.frame = ⟨true, true, 0, false⟩ ∧ s.stream = [.op 0x6000000#28, .op 0x8000000#28] := by decide
/-- R241: the step to 29830 wraps and is in the IRQ window. -/
theorem test_frame_step :
    (runClock 1 { enabled with frame := ⟨false, false, 29829, false⟩ }).frame = ⟨false, false, 0, true⟩ := by decide
/-- R241, R242: the edges of the IRQ window and the wraps of the other schedules. -/
theorem test_frame_edges :
    (runClock 1 { enabled with frame := ⟨false, false, 29826, false⟩ }).frame = ⟨false, false, 29827, false⟩ ∧
    (runClock 1 { enabled with frame := ⟨false, false, 29827, false⟩ }).frame = ⟨false, false, 29828, true⟩ ∧
    (runClock 1 { enabled with frame := ⟨true, false, 37281, false⟩ }).frame = ⟨true, false, 0, false⟩ ∧
    (runClock 1 { enabled with
      cfg := { Config.default with region := .pal }, frame := ⟨false, true, 33253, false⟩ }).frame =
      ⟨false, true, 0, false⟩ := by decide
/-- R241: NTSC 5-step issues nothing at 29829, and QF then HF at 37281. -/
theorem test_frame_strobes :
    (runClock 1 { enabled with frame := ⟨true, false, 29828, false⟩ }).stream = [.op 0x4000000#28, .clock 0] ∧
    (runClock 1 { enabled with frame := ⟨true, false, 37280, false⟩ }).stream =
      [.op 0x6000000#28, .op 0x8000000#28, .op 0x4000000#28, .clock 0] := by decide
/-- R60: a placed word is what the next step runs. -/
theorem test_withFetchWord :
    (nextOf (step (State.reset.withFetchWord 32 0x400BF))).map (·.p1) =
      (nextOf (step (State.reset.withFetchWord 28 0x400BF))).map (·.p1) ∧
    (nextOf (step (State.reset.withFetchWord 28 0x4000BF))).map (·.p1.vol) = some 15 := by decide
/-- R69. -/
theorem test_wordText : wordText 0x4000BF#28 = "WR $4000, $BF" := by decide

/-! ## Witnesses: the hypotheses of each statement can be met -/

/-- A state in which every unit is busy: the DMC is about to fetch the last byte of a sample at $FFFF. -/
def busy : State :=
  { enabled with
    p1 := { Pulse.reset with period := 0x100, timer := 3, len := 254, swEn := true, swShift := 1, env := ⟨true, 0, 0⟩ }
    p2 := { Pulse.reset with period := 0x7FF, timer := 0, len := 1, swShift := 7, env := ⟨false, 0, 9⟩, swReload := true }
    t := { Triangle.reset with period := 2, timer := 2, lin := 127, len := 2, linReload := true }
    n := { Noise.reset with timer := 1, len := 6, env := ⟨false, 2, 0⟩ }
    d := { Dmc.reset with irqEn := true, timer := 427, curAddr := 0xFFFF, bytesLeft := 1 }
    mem := [(0xC000, 0xAA), (0xFFFF, 0x55)] }

theorem witness_busy_inv : Inv busy := by constructor <;> decide

theorem witness_DecodeOfEncode : (Instr.wrOther 0xFFFF 0xFF).wf = true ∧ (Instr.rdOther 0x4014).wf = true := by decide
theorem witness_EncodeOfDecode : decode 0x0FFFFFF#28 = .ok (.wrOther 0xFFFF 0xFF) := by decide
/-- Each condition of R62 at a boundary, and words that meet none. -/
theorem witness_InvalidWords :
    InvalidWord 0xC000000#28 ∧ InvalidWord 0x1000000#28 ∧ InvalidWord 0x2000001#28 ∧ InvalidWord 0x4000001#28 ∧
    InvalidWord 0xAFFFF00#28 ∧ ¬ InvalidWord 0x2FFFF00#28 ∧ ¬ InvalidWord 0xA000000#28 ∧ ¬ InvalidWord 0x0FFFFFF#28 := by
  refine ⟨?_, ?_, ?_, ?_, ?_, ?_, ?_, ?_⟩ <;> (unfold InvalidWord; decide)
/-- The three ranges of other addresses at their edges, and a READ beside $4015. -/
theorem witness_AccessesSelect :
    (0x3FFF#16 : Addr).toNat < 0x4000 ∧ (0x4014#16 : Addr).toNat = 0x4014 ∧ 0x4016 ≤ (0x4016#16 : Addr).toNat ∧
    (0x4014#16 : Addr).toNat ≠ 0x4015 := by decide
theorem witness_StepIssues_runs : decode 0x6000000#28 = .ok .qf ∧
    exec .qf { busy with stream := [] } = .next (after .qf { busy with stream := [] }) := ⟨by decide, rfl⟩
theorem witness_StepIssues_refused : decode 0xE000000#28 = .error .reservedOp := by decide
theorem witness_Environment_strobe : Instr.rdStatus ≠ .reset ∧ (∀ d, Instr.rdStatus ≠ .wrOther 0x4017 d) ∧
    (after .rdStatus busy).frameIrqClear = true ∧ busy.frameIrqClear = false :=
  ⟨by decide, fun _ => by simp, by decide, by decide⟩
/-- Counts at the ends of what the statement covers: 0 and 65534. -/
theorem witness_Clock_edges : State.reset.frame.count.toNat < 65535 ∧
    ({ State.reset.frame with count := 65534 } : FrameSequencer).count.toNat < 65535 := by decide
theorem witness_Clock : { busy with stream := [.clock 1] }.stream = Event.clock (0 + 1) :: [] ∧
    busy.cfg.frameSchedule = .nesdev ∧ busy.frame.count.toNat < 65535 := by decide
theorem witness_InputEvents :
    { busy with stream := [.hostWrite 0x8000 0x12, .openBus (some 1)] }.stream =
      Event.hostWrite 0x8000 0x12 :: [.openBus (some 1)] ∧ busy.stream = [] := by decide
theorem witness_StatusRead : { busy with openBus := some 0x20, stream := [.op 0x2401500#28] }.openBus = some 0x20 ∧
    { busy with stream := [.op 0x2401500#28] }.stream = Event.op 0x2401500#28 :: [] := by decide
theorem witness_SweepTarget : busy.p1.swNeg = false ∧ { busy.p1 with swNeg := true }.swNeg = true ∧
    ¬ (PulseId.two = .one ∧ NegateMode.ones = .ones) := by decide
theorem witness_Muting : (Pulse.mk 0 false false 0 false 0 false 0 false 0 0x400 0 0 0 ⟨false, 0, 0⟩).swShift = 0 ∧
    0x400 ≤ { Pulse.reset with period := 0x400 }.period.toNat := by decide
theorem witness_EnableGate : State.reset.cfg.disabledGate = true ∧ State.reset.en.d = false ∧
    { Config.default with disabledGate := false }.disabledGate = false ∧ busy.en.p1 = true := by decide
theorem witness_Mixer : (15 : Nat) ≤ 15 ∧ (127 : Nat) ≤ 127 := by decide
theorem witness_CyclePulse : busy.apuOdd = false ∧ { busy with apuOdd := true }.apuOdd = true := by decide
/-- The clauses of the DMC statement: counting down or firing, the bit counter at 1 and at 2, a fetch wanted and its byte
listed, no fetch wanted. -/
theorem witness_CycleDmc : busy.d.timer ≠ 0 ∧ { busy.d with timer := 0, bitsLeft := 1 }.bitsLeft.toNat = 1 ∧
    2 ≤ { busy.d with timer := 0, bitsLeft := 2 }.bitsLeft.toNat ∧ busy.d.bufEmpty = true ∧ busy.d.bytesLeft ≠ 0 ∧
    busy.mem.read busy.d.curAddr.toNat = some 0x55 ∧ ¬ (State.reset.d.bufEmpty = true ∧ State.reset.d.bytesLeft ≠ 0) := by
  decide
theorem witness_DmcDelta :
    let d := { Dmc.reset with silence := false, shift := 1, level := 126 }
    d.timer = 0 ∧ d.silence = false ∧ d.shift.toNat % 2 = 1 ∧ { d with shift := 2, level := 1 }.shift.toNat % 2 = 0 ∧
    Dmc.reset.silence = true := by decide
/-- The envelope clauses: start; counting down; a step of the decay; the decay at 0. -/
theorem witness_QuarterFrame : busy.p1.env.start = true ∧ (busy.n.env.start = false ∧ busy.n.env.div ≠ 0) ∧
    (busy.p2.env.start = false ∧ busy.p2.env.div = 0 ∧ busy.p2.env.decay ≠ 0) ∧
    State.reset.p1.env.decay = 0 := by decide
/-- The sweep clauses: an update, none, a reload by the divider or by the flag, a count down. -/
theorem witness_HalfFrameSweeps :
    (busy.p1.swDiv = 0 ∧ busy.p1.swEn = true ∧ busy.p1.swShift ≠ 0 ∧ busy.p1.muted .ones .one = false) ∧
    busy.p2.swEn = false ∧ busy.p2.swReload = true ∧
    ({ busy.p1 with swDiv := 1 }.swDiv ≠ 0 ∧ { busy.p1 with swDiv := 1 }.swReload = false) := by decide
theorem witness_AfterReset : State.reset.cfg.disabledGate = true := by decide
theorem witness_Envelope : busy.p1.env.start = true ∧
    { busy.p2 with env := ⟨true, 3, 3⟩ }.env.start = true ∧ { busy.n with env := ⟨true, 3, 3⟩ }.env.start = true := by decide
theorem witness_LinearCounter : busy.t.linReload = true := by decide
theorem witness_TrianglePeriod : busy.t.lin ≠ 0 ∧ busy.t.len ≠ 0 ∧
    ¬ (busy.cfg.triUltrasonic = .halt ∧ busy.t.period.toNat < 2) ∧ busy.t.timer.toNat ≤ busy.t.period.toNat := by decide
theorem witness_PulsePeriod : busy.p1.timer.toNat ≤ busy.p1.period.toNat ∧ busy.p2.timer.toNat ≤ busy.p2.period.toNat := by
  decide
theorem witness_NoisePeriod : busy.n.timer.toNat < noisePeriod busy.cfg.region busy.n.periodIdx / 2 := by decide
theorem witness_Lfsr : (1#15 : BitVec 15) ≠ 0 ∧ (0x7FFF#15 : BitVec 15) ≠ 0 := by decide
theorem witness_DmcTimer : State.reset.d.timer = 0 ∧ 0 < 428 ∧ 428 ≤ dmcRate State.reset.cfg.region State.reset.d.rateIdx := by
  decide
theorem witness_StepKeepsInv : Inv { busy with stream := [.op 0x4000000#28] } ∧
    (nextOf (step { busy with stream := [.op 0x4000000#28] })).isSome = true := by
  refine ⟨?_, by decide⟩
  constructor <;> decide
/-- The IRQ is set by a CYCLE from a state without it, and cleared by a $4015 write from one with it. -/
theorem witness_DmcIrq : busy.d.irq = false ∧ (after .cycle busy).d.irq = true ∧
    (after (.wrStatus 0) { busy with d := { busy.d with irq := true } }).d.irq = false := by decide
theorem witness_OnlyTheirStrobes : exec (.wrP1Ctrl 0) busy = .next (after (.wrP1Ctrl 0) busy) ∧
    Instr.wrP1Ctrl 0 ≠ .reset ∧ Instr.wrP1Ctrl 0 ≠ .qf ∧ Instr.wrP1Ctrl 0 ≠ .hf ∧ Instr.wrP1Ctrl 0 ≠ .cycle ∧
    (∀ d, Instr.wrP1Ctrl 0 ≠ .wrP1Thi d ∧ Instr.wrP1Ctrl 0 ≠ .wrStatus d) :=
  ⟨rfl, by decide, by decide, by decide, by decide, fun _ => ⟨by simp, by simp⟩⟩
theorem witness_OnlyTheirStrobes_write : exec (.wrP2Thi 0) busy = .next (after (.wrP2Thi 0) busy) ∧
    (∀ d, Instr.wrP2Thi 0 ≠ .wrP1Thi d) ∧ (∀ d, Instr.wrP2Thi 0 ≠ .wrDmcLoad d) ∧ (∀ d, Instr.wrP2Thi 0 ≠ .wrStatus d) :=
  ⟨rfl, fun _ => by simp, fun _ => by simp, fun _ => by simp⟩
theorem witness_CoreLeaves : (after .rdStatus { busy with openBus := some 0 }).rdata ≠ busy.rdata := by decide
theorem witness_Idempotent : exec (.wrDmcLen 7) busy = .next (after (.wrDmcLen 7) busy) := rfl
theorem witness_Idempotent_status : bit 0xEF 4 = false ∧
    exec (.wrStatus 0xEF) busy = .next (after (.wrStatus 0xEF) busy) := ⟨by decide, rfl⟩
/-- A Pulse generator whose raw output is its volume `v`. -/
def sounding (v : BitVec 4) : Pulse := { Pulse.reset with len := 1, period := 8, duty := 3, constVol := true, vol := v }
/-- A Noise generator whose raw output is 15. -/
def hissing : Noise := { Noise.reset with len := 1, lfsr := 2, constVol := true, vol := 15 }
/-- The five published outputs. -/
def outs (s : State) : Nat × Nat × Nat × Nat × Nat := (outP1 s, outP2 s, outT s, outN s, outD s)
/-- The largest outputs. -/
def loud : State :=
  { enabled with
    p1 := sounding 15, p2 := sounding 15, t := { Triangle.reset with seq := 15 }, n := hissing
    d := { Dmc.reset with level := 127 } }
/-- The eight rows of samples, each met by a state. -/
theorem witness_Mix :
    outs { enabled with p1 := sounding 15 } = (15, 0, 0, 0, 0) ∧ outs { enabled with p1 := sounding 8 } = (8, 0, 0, 0, 0) ∧
    outs { enabled with p1 := sounding 1 } = (1, 0, 0, 0, 0) ∧
    outs { enabled with t := { Triangle.reset with seq := 15 } } = (0, 0, 15, 0, 0) ∧
    outs { enabled with n := hissing } = (0, 0, 0, 15, 0) ∧
    outs { enabled with d := { Dmc.reset with level := 127 } } = (0, 0, 0, 0, 127) ∧
    outs { enabled with d := { Dmc.reset with level := 64 } } = (0, 0, 0, 0, 64) ∧
    outs loud = (15, 15, 15, 15, 127) := by
  refine ⟨?_, ?_, ?_, ?_, ?_, ?_, ?_, ?_⟩ <;> decide
theorem witness_EnableBefore : Inv busy ∧ bit 0x0F 0 = true ∧ bit 0x0F 1 = true ∧ bit 0x0F 2 = true ∧ bit 0x0F 3 = true :=
  ⟨witness_busy_inv, by decide⟩
theorem witness_EnableBefore_disabled : Inv { busy with en := ⟨false, false, false, false, false⟩, p1 := Pulse.reset, p2 := Pulse.reset, t := Triangle.reset, n := Noise.reset } := by
  constructor <;> decide
theorem witness_DmcRestart : bit 0x0F 4 = false ∧ bit 0x1F 4 = true ∧ busy.d.bytesLeft ≠ 0 := by decide
theorem witness_ZeroLength : State.reset.p1.len = 0 ∧ State.reset.p2.len = 0 ∧ State.reset.n.len = 0 ∧ State.reset.t.len = 0 := by
  decide
theorem witness_Replay : ∃ s r z : State, r = after .reset s ∧ z = zeroBytes.foldl (fun x i => after i x) r :=
  ⟨busy, _, _, rfl, rfl⟩
theorem witness_Region : exec .cycle busy = .next (after .cycle busy) ∧
    exec .cycle { busy with cfg := { busy.cfg with region := .pal } } =
      .next (after .cycle { busy with cfg := { busy.cfg with region := .pal } }) := ⟨rfl, rfl⟩

end Sys2Proof.Tests
end

section
/-! Nothing but the Noise and DMC timers depends on REGION (00_scope.md R8). Two runs that differ in REGION stay in the
relation `State.withPeriodTimers`: equal but for REGION and those two timers. A timer clock reaches that relation because
a divider fires by its counter alone; every later part of a CYCLE keeps it because it reads neither timer. -/

namespace Sys2Proof.Machine

open Sys2Proof.Safety

/-- The state with REGION replaced (00_scope.md R8). -/
def State.withRegion (r : Region) (s : State) : State := { s with cfg := { s.cfg with region := r } }

/-- The state with REGION and the two timers that count its periods replaced. -/
def State.withPeriodTimers (r : Region) (nt : BitVec 11) (dt : BitVec 9) (s : State) : State :=
  { s with
    cfg := { s.cfg with region := r }
    n := { s.n with timer := nt }
    d := { s.d with timer := dt } }

/-- Whether a divider fires does not depend on its period (40_common_units.md R80). -/
theorem clockDivider_fires {w : Nat} (c p : BitVec w) : (clockDivider c p).2 = decide (c = 0#w) := by
  by_cases h : c = 0#w <;> simp [clockDivider, h]

/-- REGION reaches no field of the Noise generator but its timer (43_noise.md R162). -/
theorem Noise.timerClock_region (q r : Region) (n : Noise) :
    n.timerClock r = { n.timerClock q with timer := (n.timerClock r).timer } := by
  simp [Noise.timerClock, clockDivider_fires]

/-- An output clock neither reads nor changes the DMC timer (44_dmc.md R184, R185). -/
theorem Dmc.outputClock_timer (l : DmcLimit) (x : BitVec 9) (d : Dmc) :
    Dmc.outputClock l { d with timer := x } = { d.outputClock l with timer := x } := by
  have hlevel : Dmc.deltaLevel l { d with timer := x } = d.deltaLevel l := rfl
  unfold Dmc.outputClock Dmc.shiftClock
  rw [hlevel]
  split
  · rfl
  · split <;> rfl

/-- REGION reaches no field of the DMC but its timer in a timer clock (44_dmc.md R183). -/
theorem Dmc.timerClock_region (q r : Region) (l : DmcLimit) (d : Dmc) :
    d.timerClock r l = { d.timerClock q l with timer := (d.timerClock r l).timer } := by
  by_cases h : d.timer = 0#9 <;> simp [Dmc.timerClock, clockDivider_fires, h, Dmc.outputClock_timer]

/-- A fetch neither reads nor changes the DMC timer (44_dmc.md R186-R188). -/
theorem Dmc.fetched_timer (b : Byte) (x : BitVec 9) (d : Dmc) :
    Dmc.fetched b { d with timer := x } = { d.fetched b with timer := x } := by
  unfold Dmc.fetched Dmc.endOfSample
  split
  · split
    · rfl
    · split <;> rfl
  · rfl

/-- Up to the memory reader, a CYCLE depends on REGION only in the two timers (45_status_and_clocking.md R214). -/
theorem beforeReader_withRegion (r : Region) (s : State) :
    ∃ nt dt, beforeReader (s.withRegion r) = (beforeReader s).withPeriodTimers r nt dt := by
  have hd := Dmc.timerClock_region s.cfg.region r s.cfg.dmcLimit s.d
  cases h : s.apuOdd with
  | false =>
    refine ⟨s.n.timer, (s.d.timerClock r s.cfg.dmcLimit).timer, ?_⟩
    simpa [beforeReader, dmcTimer, toggleApu, apuTimers, triangleTimer, State.withRegion, State.withPeriodTimers,
      State.setT, State.setD, h] using hd
  | true =>
    have hn := Noise.timerClock_region s.cfg.region r s.n
    refine ⟨(s.n.timerClock r).timer, (s.d.timerClock r s.cfg.dmcLimit).timer, ?_⟩
    simpa [beforeReader, dmcTimer, toggleApu, apuTimers, triangleTimer, State.withRegion, State.withPeriodTimers,
      State.setT, State.setD, h] using ⟨hn, hd⟩

/-- The memory reader reads neither REGION nor the two timers (44_dmc.md R186). -/
theorem dmcReader_withPeriodTimers (r : Region) (nt : BitVec 11) (dt : BitVec 9) (s : State) :
    dmcReader (s.withPeriodTimers r nt dt) = (dmcReader s).withPeriodTimers r nt dt := by
  have hwants : (s.withPeriodTimers r nt dt).d.wantsFetch = s.d.wantsFetch := rfl
  have hfetched : (s.withPeriodTimers r nt dt).d.fetched
        (memAnswer (s.withPeriodTimers r nt dt) (s.withPeriodTimers r nt dt).d.curAddr) =
      { s.d.fetched (memAnswer s s.d.curAddr) with timer := dt } := Dmc.fetched_timer _ _ _
  rw [dmcReader, dmcReader, hwants, hfetched]
  split <;> rfl

/-- No operation but CYCLE depends on REGION (00_scope.md R8). -/
theorem after_withRegion_of_ne_cycle (r : Region) (s : State) {i : Instr} (h : i ≠ .cycle) :
    after i (s.withRegion r) = (after i s).withRegion r := by
  cases i with
  | cycle => exact absurd rfl h
  | _ => rfl

/-- No operation depends on REGION in anything but the two timers (00_scope.md R8). -/
theorem after_withRegion (r : Region) (s : State) (i : Instr) :
    ∃ nt dt, after i (s.withRegion r) = (after i s).withPeriodTimers r nt dt := by
  by_cases h : i = .cycle
  · subst h
    obtain ⟨nt, dt, hbefore⟩ := beforeReader_withRegion r s
    refine ⟨nt, dt, ?_⟩
    simp only [after_cycle, cycleState_eq, hbefore, dmcReader_withPeriodTimers]
  · exact ⟨(after i s).n.timer, (after i s).d.timer, after_withRegion_of_ne_cycle r s h⟩

/-- Settles O59: the two next states are related by `after_withRegion`, and equal but for REGION outside CYCLE. -/
theorem regionSelectsOnlyThePeriodTables : Obligations.RegionSelectsOnlyThePeriodTables := by
  unfold Obligations.RegionSelectsOnlyThePeriodTables
  intro i s t u r ht hu
  obtain rfl : t = after i s := next_eq_after ht
  obtain rfl : u = after i (s.withRegion r) := next_eq_after hu
  refine ⟨after_withRegion_of_ne_cycle r s, ?_⟩
  obtain ⟨nt, dt, h⟩ := after_withRegion r s i
  rw [h]
  rfl

end Sys2Proof.Machine
end

section
/-! The invariant of 10_state.md R39 (`Safety.Inv`), cut along the units: a clause per length counter, one for the Noise
generator, one for the DMC and one for the sample memory. Each unit's clause is kept by that unit's own operations;
`UnitsInv`, their conjunction, is kept by every operation of the core and by everything the environment does. The strobe
stands apart (`inv_iff`): the core raises it, and the reaction of the same step takes it. `{ h with }` restates an
invariant for a state that differs in none of the fields the invariant reads. -/

namespace Sys2Proof.Machine

open Sys2Proof.Safety

/-- R39(a) and R39(f) for one length counter: 0 while its channel is disabled, at most 254 always. -/
structure LengthInv (enabled : Bool) (len : BitVec 8) : Prop where
  off : enabled = false → len = 0
  le : len.toNat ≤ 254

/-- R39(e) and the range of `N.timer` (10_state.md R15). -/
structure Noise.InRange (n : Noise) : Prop where
  lfsr : n.lfsr ≠ 0
  timer : n.timer.toNat ≤ 2033

/-- R39(b), (c), (d) and the range of `D.timer` (10_state.md R16); R39(g) is the width of `D.level`. -/
structure Dmc.InRange (d : Dmc) : Prop where
  curAddr : 0x8000 ≤ d.curAddr.toNat
  bytesLeft : d.bytesLeft.toNat ≤ 4081
  bitsLeft : 1 ≤ d.bitsLeft.toNat ∧ d.bitsLeft.toNat ≤ 8
  timer : d.timer.toNat ≤ 427

/-- The invariant but for the strobe. -/
structure UnitsInv (s : State) : Prop where
  p1 : LengthInv s.en.p1 s.p1.len
  p2 : LengthInv s.en.p2 s.p2.len
  t : LengthInv s.en.t s.t.len
  n : LengthInv s.en.n s.n.len
  noise : s.n.InRange
  dmc : s.d.InRange
  mem : s.mem.wf = true

/-- The invariant is the units' clauses and the strobe taken. -/
theorem inv_iff (s : State) : Inv s ↔ UnitsInv s ∧ s.frameIrqClear = false := by
  constructor
  · intro h
    obtain ⟨hp1, hp2, ht, hn⟩ := h.len
    exact ⟨⟨⟨h.offP1, hp1⟩, ⟨h.offP2, hp2⟩, ⟨h.offT, ht⟩, ⟨h.offN, hn⟩, ⟨h.lfsr, h.noiseTimer⟩,
      ⟨h.curAddr, h.bytesLeft, h.bitsLeft, h.dmcTimer⟩, h.mem⟩, h.strobe⟩
  · rintro ⟨h, hstrobe⟩
    exact
      { offP1 := h.p1.off, offP2 := h.p2.off, offT := h.t.off, offN := h.n.off
        curAddr := h.dmc.curAddr, bytesLeft := h.dmc.bytesLeft, bitsLeft := h.dmc.bitsLeft
        lfsr := h.noise.lfsr
        len := ⟨h.p1.le, h.p2.le, h.t.le, h.n.le⟩
        level := Nat.le_of_lt_succ s.d.level.isLt
        noiseTimer := h.noise.timer, dmcTimer := h.dmc.timer
        mem := h.mem, strobe := hstrobe }

/-! ### Length counters -/

/-- A length counter at 0 meets its clause whether enabled or not. -/
theorem LengthInv.zero (e : Bool) : LengthInv e 0 := ⟨fun _ => rfl, by decide⟩

/-- A length-loading write keeps the clause: it loads an entry of LENGTH_TABLE only where the channel is enabled. -/
theorem LengthInv.load {e : Bool} {l : BitVec 8} (h : LengthInv e l) (d : Byte) : LengthInv e (lengthLoad e d l) where
  off he := by subst he; exact h.off rfl
  le := lengthLoad_le e d l h.le

/-- A length clock keeps the clause: it never leaves 0. -/
theorem LengthInv.clock {e : Bool} {l : BitVec 8} (h : LengthInv e l) (halt : Bool) :
    LengthInv e (lengthClock halt l) where
  off he := by simp [h.off he, lengthClock]
  le := lengthClock_le halt l h.le

/-- A $4015 write gives the clause for the new enable flag: a channel it disables loses its length. -/
theorem LengthInv.enable {l : BitVec 8} (h : l.toNat ≤ 254) (on : Bool) : LengthInv on (lengthEnable on l) := by
  cases on
  · exact .zero false
  · exact ⟨nofun, h⟩

/-- A Pulse timer clock leaves the length counter alone (41_pulse.md R102). -/
@[simp] theorem Pulse.timerClock_len (p : Pulse) : p.timerClock.len = p.len := by rw [Pulse.timerClock_eq]

/-- A CYCLE leaves Pulse1's length counter alone (40_common_units.md R85). -/
theorem cycleState_p1_len (s : State) : (cycleState s).p1.len = s.p1.len := by
  rw [cycleState_p1]; split <;> simp

/-- A CYCLE leaves Pulse2's length counter alone (40_common_units.md R85). -/
theorem cycleState_p2_len (s : State) : (cycleState s).p2.len = s.p2.len := by
  rw [cycleState_p2]; split <;> simp

/-- A CYCLE leaves the Triangle's length counter alone (40_common_units.md R85). -/
theorem cycleState_t_len (s : State) : (cycleState s).t.len = s.t.len := by
  rw [cycleState_t, Triangle.timerClock]

/-- A CYCLE leaves the Noise generator's length counter alone (40_common_units.md R85). -/
theorem cycleState_n_len (s : State) : (cycleState s).n.len = s.n.len := by
  rw [cycleState_n]; split <;> simp [Noise.timerClock]

/-! ### The Noise generator -/

/-- The Noise generator is in range at reset. -/
theorem Noise.InRange.reset : Noise.reset.InRange := ⟨by decide, by decide⟩

/-- A timer clock keeps the Noise generator in range: the LFSR never reaches 0 and the reload value is at most 2033. -/
theorem Noise.InRange.timerClock {n : Noise} (h : n.InRange) (r : Region) : (n.timerClock r).InRange where
  lfsr := by
    simp only [Noise.timerClock]
    split
    · exact lfsrNext_ne_zero n.mode n.lfsr h.lfsr
    · exact h.lfsr
  timer := clockDivider_le n.timer (noiseReload r n.periodIdx) h.timer (noiseReload_le r n.periodIdx)

/-! ### The DMC -/

/-- The DMC is in range at reset. -/
theorem Dmc.InRange.reset : Dmc.reset.InRange := ⟨by decide, by decide, by decide, by decide⟩

/-- The restart address lies in the sample space (44_dmc.md R182). -/
theorem Dmc.restart_curAddr_ge (d : Dmc) : 0x8000 ≤ d.restart.curAddr.toNat := by
  rw [Dmc.restart_curAddr]; omega

/-- The restart length is at most 16 * 255 + 1 (44_dmc.md R182). -/
theorem Dmc.restart_bytesLeft_le (d : Dmc) : d.restart.bytesLeft.toNat ≤ 4081 := by
  have := d.lenReg.isLt
  rw [Dmc.restart_bytesLeft]; omega

/-- The restart procedure keeps the DMC in range. -/
theorem Dmc.InRange.restart {d : Dmc} (h : d.InRange) : d.restart.InRange :=
  ⟨d.restart_curAddr_ge, d.restart_bytesLeft_le, h.bitsLeft, h.timer⟩

/-- A $4015 write keeps the DMC in range: it restarts the sample, empties it or leaves it. -/
theorem Dmc.InRange.writeEnable {d : Dmc} (h : d.InRange) (on : Bool) : (d.writeEnable on).InRange := by
  unfold Dmc.writeEnable
  cases on with
  | false => exact ⟨h.curAddr, Nat.zero_le _, h.bitsLeft, h.timer⟩
  | true =>
    by_cases hb : d.bytesLeft = 0#12
    · simpa [hb] using ⟨h.restart.curAddr, h.restart.bytesLeft, h.bitsLeft, h.timer⟩
    · simpa [hb] using ⟨h.curAddr, h.bytesLeft, h.bitsLeft, h.timer⟩

/-- A timer clock keeps the DMC in range. -/
theorem Dmc.InRange.timerClock {d : Dmc} (h : d.InRange) (r : Region) (l : DmcLimit) : (d.timerClock r l).InRange := by
  obtain ⟨-, -, -, -, -, hcur, hbytes, -, -, htimer⟩ := Dmc.timerClock_frame r l d
  exact
    { curAddr := hcur ▸ h.curAddr
      bytesLeft := hbytes ▸ h.bytesLeft
      bitsLeft := Dmc.timerClock_bitsLeft r l d h.bitsLeft
      timer := htimer ▸ clockDivider_le d.timer (dmcReload r d.rateIdx) h.timer (dmcReload_le r d.rateIdx) }

/-- A fetch keeps the DMC in range: the reader fetches only where a byte is left, so the count does not wrap. -/
theorem Dmc.InRange.fetched {d : Dmc} (h : d.InRange) (hw : d.wantsFetch = true) (b : Byte) :
    (d.fetched b).InRange := by
  obtain ⟨-, -, -, -, -, htimer, -, -, hbits, -⟩ := Dmc.fetched_frame b d
  have hpos : d.bytesLeft ≠ 0#12 := of_decide_eq_true (Bool.and_eq_true_iff.mp hw).2
  have hpred : (d.bytesLeft - 1#12).toNat ≤ 4081 := by
    rw [toNat_pred _ hpos]; exact (Nat.sub_le _ _).trans h.bytesLeft
  refine ⟨?_, ?_, hbits ▸ h.bitsLeft, htimer ▸ h.timer⟩
  · obtain ⟨-, -, hcur, -⟩ | ⟨hcur, -⟩ := Dmc.fetched_cases b d
    · exact hcur ▸ d.restart_curAddr_ge
    · exact hcur ▸ advanceAddress_ge d.curAddr h.curAddr
  · obtain ⟨-, -, -, hbytes, -⟩ | ⟨-, hbytes, -⟩ := Dmc.fetched_cases b d
    · exact hbytes ▸ d.restart_bytesLeft_le
    · exact hbytes ▸ hpred

/-! ### The core's operations -/

/-- The units meet their clauses at reset. -/
theorem UnitsInv.reset : UnitsInv State.reset :=
  ⟨.zero _, .zero _, .zero _, .zero _, .reset, .reset, Memory.wf_nil⟩

section Updates

variable {s : State} (h : UnitsInv s)
include h

/-- Replacing Pulse1 needs its length clause only. -/
theorem UnitsInv.setP1 {p : Pulse} (hp : LengthInv s.en.p1 p.len) : UnitsInv (s.setP1 p) := { h with p1 := hp }

/-- Replacing Pulse2 needs its length clause only. -/
theorem UnitsInv.setP2 {p : Pulse} (hp : LengthInv s.en.p2 p.len) : UnitsInv (s.setP2 p) := { h with p2 := hp }

/-- Replacing the Triangle needs its length clause only. -/
theorem UnitsInv.setT {t : Triangle} (ht : LengthInv s.en.t t.len) : UnitsInv (s.setT t) := { h with t := ht }

/-- Replacing the Noise generator needs its two clauses. -/
theorem UnitsInv.setN {n : Noise} (hl : LengthInv s.en.n n.len) (hn : n.InRange) : UnitsInv (s.setN n) :=
  { h with n := hl, noise := hn }

/-- Replacing the DMC needs its clause only. -/
theorem UnitsInv.setD {d : Dmc} (hd : d.InRange) : UnitsInv (s.setD d) := { h with dmc := hd }

/-- A CYCLE keeps the units' clauses (45_status_and_clocking.md R214). -/
theorem UnitsInv.cycleState : UnitsInv (cycleState s) where
  p1 := by rw [cycleState_en, cycleState_p1_len]; exact h.p1
  p2 := by rw [cycleState_en, cycleState_p2_len]; exact h.p2
  t := by rw [cycleState_en, cycleState_t_len]; exact h.t
  n := by rw [cycleState_en, cycleState_n_len]; exact h.n
  noise := by
    rw [cycleState_n]
    split
    · exact h.noise.timerClock s.cfg.region
    · exact h.noise
  dmc := by
    have hbefore : (dmcBeforeReader s).InRange := h.dmc.timerClock s.cfg.region s.cfg.dmcLimit
    rw [cycleState_d]
    split
    · next hw => exact hbefore.fetched hw _
    · exact hbefore
  mem := by rw [cycleState_mem]; exact h.mem

/-- Every operation of the core keeps the units' clauses. -/
theorem UnitsInv.after (i : Instr) : UnitsInv (after i s) := by
  cases i with
  | wrP1Ctrl | wrP1Sweep | wrP1Tlo => exact h.setP1 h.p1
  | wrP1Thi d => exact h.setP1 (h.p1.load d)
  | wrP2Ctrl | wrP2Sweep | wrP2Tlo => exact h.setP2 h.p2
  | wrP2Thi d => exact h.setP2 (h.p2.load d)
  | wrTriLinear | wrTriTlo => exact h.setT h.t
  | wrTriThi d => exact h.setT (h.t.load d)
  | wrNoiseCtrl | wrNoisePeriod => exact h.setN h.n ⟨h.noise.lfsr, h.noise.timer⟩
  | wrNoiseLen d => exact h.setN (h.n.load d) ⟨h.noise.lfsr, h.noise.timer⟩
  | wrDmcCtrl | wrDmcLoad | wrDmcAddr | wrDmcLen =>
    exact h.setD ⟨h.dmc.curAddr, h.dmc.bytesLeft, h.dmc.bitsLeft, h.dmc.timer⟩
  | wrStatus d =>
    exact ⟨.enable h.p1.le _, .enable h.p2.le _, .enable h.t.le _, .enable h.n.le _,
      ⟨h.noise.lfsr, h.noise.timer⟩, h.dmc.writeEnable _, h.mem⟩
  | wr4009Unused | wr400dUnused | wrOther => exact h
  | rdStatus | rdOther => exact { h with }
  | cycle => exact h.cycleState
  | qf => exact { h with noise := ⟨h.noise.lfsr, h.noise.timer⟩ }
  | hf =>
    exact ⟨h.p1.clock _, h.p2.clock _, h.t.clock _, h.n.clock _, ⟨h.noise.lfsr, h.noise.timer⟩, h.dmc, h.mem⟩
  | reset => exact ⟨.zero _, .zero _, .zero _, .zero _, .reset, .reset, h.mem⟩

/-! ### The environment and the step -/

/-- Taking the strobe keeps the units' clauses and leaves no strobe raised, so the invariant holds (R233). -/
theorem UnitsInv.inv_takeStrobe : Inv (takeStrobe s) := by
  rw [inv_iff]
  unfold takeStrobe
  split
  · exact ⟨{ h with }, rfl⟩
  · next hs => exact ⟨h, by simpa using hs⟩

/-- The reaction to every operation ends in the invariant: it takes the strobe last. -/
theorem UnitsInv.inv_react (i : Instr) : Inv (react i s) := by
  cases i with
  | wrOther a d =>
    refine UnitsInv.inv_takeStrobe ?_
    unfold see4017
    split
    · exact { h with }
    · exact h
  | reset => exact UnitsInv.inv_takeStrobe (s := resetFrame s) { h with }
  | _ => exact h.inv_takeStrobe

end Updates

/-- A word that is issued is decoded, and the operation's effect and the reaction give the next state. -/
theorem issueWord_cases {w : OpWord} {s t : State} (h : issueWord w s = .next t) :
    ∃ i, decode w = .ok i ∧ t = react i (after i s) := by
  unfold issueWord at h
  split at h
  · next i hi =>
    rw [issue, exec_eq_after] at h
    exact ⟨i, hi, (Host.Outcome.next.inj h).symm⟩
  · cases h

/-- Every event keeps the invariant. -/
theorem inv_runEvent {e : Event} {s t : State} (h : Inv s) (hrun : runEvent e s = .next t) : Inv t := by
  cases e with
  | op w =>
    obtain ⟨hunits, -⟩ := (inv_iff s).mp h
    obtain ⟨i, -, rfl⟩ := issueWord_cases hrun
    exact (hunits.after i).inv_react i
  | clock k =>
    obtain rfl := Host.Outcome.next.inj hrun
    cases k with
    | zero => exact h
    | succ k => exact { h with }
  | hostWrite a b =>
    obtain rfl := Host.Outcome.next.inj hrun
    exact { h with mem := Memory.wf_write s.mem a b h.mem }
  | openBus b =>
    obtain rfl := Host.Outcome.next.inj hrun
    exact { h with }

/-- A step with an event at the head of the stream runs that event. -/
theorem step_event {s : State} {e : Event} {rest : List Event} (h : s.stream = e :: rest) :
    step s = runEvent e { s with stream := rest } := by simp [step, runStream, h]

/-- Settles O49: the units' clauses at reset, with no strobe raised. -/
theorem resetMeetsTheInvariant : Obligations.ResetMeetsTheInvariant :=
  (inv_iff State.reset).mpr ⟨.reset, rfl⟩

/-- Settles O50: taking an event off the stream touches no field of the invariant, and `inv_runEvent` does the rest. -/
theorem everyStepKeepsTheInvariant : Obligations.EveryStepKeepsTheInvariant := by
  unfold Obligations.EveryStepKeepsTheInvariant
  intro s t h hstep
  cases hs : s.stream with
  | nil =>
    rw [step_idle hs] at hstep
    exact Host.Outcome.next.inj hstep ▸ h
  | cons e rest =>
    rw [step_event hs] at hstep
    have hrest : Inv { s with stream := rest } := { h with }
    exact inv_runEvent hrest hstep

end Sys2Proof.Machine
end

section
/-! What a $4015 read answers (10_state.md R36) and what RESET sets (10_state.md R38). -/

namespace Sys2Proof.Machine

open Sys2Proof.Safety

/-- A counter differs from 0 exactly when its number is above 0. -/
theorem ne_zero_iff_toNat_pos {w : Nat} (x : BitVec w) : x ≠ 0#w ↔ 0 < x.toNat := by
  rw [Nat.pos_iff_ne_zero, ne_eq, ne_eq, BitVec.toNat_eq, BitVec.toNat_zero]

/-- The status byte bit by bit, bit 7 down to bit 0 (10_state.md R36; 45_status_and_clocking.md R211). -/
theorem statusByte_bits (s : State) (irq : Bool) (b : Byte) :
    bit (statusByte s irq b) 7 = s.d.irq ∧ bit (statusByte s irq b) 6 = irq ∧
    bit (statusByte s irq b) 5 = bit b 5 ∧ bit (statusByte s irq b) 4 = decide (0 < s.d.bytesLeft.toNat) ∧
    bit (statusByte s irq b) 3 = decide (0 < s.n.len.toNat) ∧
    bit (statusByte s irq b) 2 = decide (0 < s.t.len.toNat) ∧
    bit (statusByte s irq b) 1 = decide (0 < s.p2.len.toNat) ∧
    bit (statusByte s irq b) 0 = decide (0 < s.p1.len.toNat) := by
  simp only [← bitOf_eq_bit, ← ne_zero_iff_toNat_pos, bitOf, statusByte, Dmc.active, BitVec.getLsbD_append]
  simp

/-- Settles O19: the answer is `statusByte`, and a driven openBus gives its bit 5. -/
theorem statusReadAnswers : Obligations.StatusReadAnswers := by
  unfold Obligations.StatusReadAnswers
  intro s
  obtain ⟨h7, h6, h5, hactive⟩ := statusByte_bits s s.frame.irq (openBusValue s)
  refine ⟨_, drawsAfterOpenBus s, exec_eq_after .rdStatus s, h7, h6, fun b hb => ?_, hactive⟩
  rw [h5, openBusValue_driven s b hb]

/-- Settles O37: RESET's next state is `after_reset`, and each generator's reset value is the row of literals listed. -/
theorem resetOperationSetsResetValues : Obligations.ResetOperationSetsResetValues := by
  unfold Obligations.ResetOperationSetsResetValues
  intro s
  rw [exec_eq_after, after_reset]
  rfl

end Sys2Proof.Machine
end

section
/-! What no operation of the core writes (20_memory.md R40, R45), and which register writes are idempotent (R45(b)).
Most plain writes set fields of one unit from the data byte alone, so a repetition sets them to the same values. Three
kinds need an argument: a timer-low write keeps the period's high bits, a $4010 write clears `D.irq` or keeps it, and a
$4015 write clears length counters or keeps them. -/

namespace Sys2Proof.Machine

open Sys2Proof.Safety

/-! ### What is outside the core -/

/-- The fields of what lies outside the core agree: sample memory, frame sequencer, parameters, openBus and stream. -/
structure SameOutside (s t : State) : Prop where
  mem : t.mem = s.mem
  frame : t.frame = s.frame
  cfg : t.cfg = s.cfg
  openBus : t.openBus = s.openBus
  stream : t.stream = s.stream

/-- No operation of the core changes what is outside the core (20_memory.md R40, R45). -/
theorem after_sameOutside (i : Instr) (s : State) : SameOutside s (after i s) := by
  cases i with
  | cycle =>
    rw [after_cycle]
    exact ⟨cycleState_mem s, cycleState_frame s, cycleState_cfg s, cycleState_openBus s, cycleState_stream s⟩
  | _ => exact ⟨rfl, rfl, rfl, rfl, rfl⟩

/-- Only a READ changes the latched answer (10_state.md R17). -/
theorem after_rdata_of_ne_read {i : Instr} (s : State) (hstatus : i ≠ .rdStatus) (hother : ∀ a, i ≠ .rdOther a) :
    (after i s).rdata = s.rdata := by
  cases i with
  | rdStatus => exact absurd rfl hstatus
  | rdOther a => exact absurd rfl (hother a)
  | cycle => rw [after_cycle, cycleState_rdata]
  | _ => rfl

/-- Only a $4015 read raises the strobe (60_exceptions.md R233). -/
theorem after_frameIrqClear_of_ne_rdStatus {i : Instr} (s : State) (h : i ≠ .rdStatus) :
    (after i s).frameIrqClear = s.frameIrqClear := by
  cases i with
  | rdStatus => exact absurd rfl h
  | cycle => rw [after_cycle, cycleState_frameIrqClear]
  | _ => rfl

/-- Settles O53: the frame of `exec`, field by field. -/
theorem coreLeavesTheOutsideAlone : Obligations.CoreLeavesTheOutsideAlone := by
  unfold Obligations.CoreLeavesTheOutsideAlone
  intro i s t ht
  obtain rfl : t = after i s := next_eq_after ht
  obtain ⟨hmem, hframe, hcfg, hbus, hstream⟩ := after_sameOutside i s
  refine ⟨fun a => by rw [hmem], hmem, hframe, hcfg, hbus, hstream, fun hread => ?_,
    after_frameIrqClear_of_ne_rdStatus s⟩
  by_contra! hno
  exact hread (after_rdata_of_ne_read s hno.1 hno.2)

/-! ### Idempotent register writes -/

/-- Of two timer-low writes the last one wins (20_memory.md R43). -/
@[simp] theorem withPeriodLow_withPeriodLow (p : BitVec 11) (a b : Byte) :
    withPeriodLow (withPeriodLow p a) b = withPeriodLow p b := by
  have hhigh : (withPeriodLow p a).extractLsb' 8 3 = p.extractLsb' 8 3 := BitVec.extractLsb'_append_eq_left
  rw [withPeriodLow, hhigh, withPeriodLow]

/-- A Pulse timer-low write is idempotent (41_pulse.md R110, R114). -/
theorem Pulse.writeTimerLow_twice (d : Byte) (p : Pulse) :
    (p.writeTimerLow d).writeTimerLow d = p.writeTimerLow d := by simp [Pulse.writeTimerLow]

/-- The Triangle's timer-low write is idempotent (42_triangle.md R147). -/
theorem Triangle.writeTimerLow_twice (d : Byte) (t : Triangle) :
    (t.writeTimerLow d).writeTimerLow d = t.writeTimerLow d := by simp [Triangle.writeTimerLow]

/-- A $4010 write is idempotent: it clears the IRQ flag or leaves it, by a bit of the data (44_dmc.md R190). -/
theorem Dmc.writeCtrl_twice (b : Byte) (d : Dmc) : (d.writeCtrl b).writeCtrl b = d.writeCtrl b := by
  cases h : bitOf b 7 <;> simp [Dmc.writeCtrl, h]

/-- Giving a channel the same enable bit twice is giving it once (40_common_units.md R84). -/
@[simp] theorem lengthEnable_twice (on : Bool) (l : BitVec 8) :
    lengthEnable on (lengthEnable on l) = lengthEnable on l := by
  cases on <;> rfl

/-- Stopping the DMC is idempotent (45_status_and_clocking.md R210). -/
@[simp] theorem Dmc.writeEnable_false_twice (d : Dmc) :
    (d.writeEnable false).writeEnable false = d.writeEnable false := rfl

/-- The writes to the fourteen registers that R45(b) does not list as exceptions, $4015 aside. -/
def plainWrites (d : Byte) : List Instr :=
  [.wrP1Ctrl d, .wrP1Tlo d, .wrP2Ctrl d, .wrP2Tlo d, .wrTriLinear d, .wr4009Unused d, .wrTriTlo d,
    .wrNoiseCtrl d, .wr400dUnused d, .wrNoisePeriod d, .wrDmcCtrl d, .wrDmcLoad d, .wrDmcAddr d, .wrDmcLen d]

/-- A plain write done twice is the write done once (20_memory.md R45(b)). -/
theorem after_plainWrite_twice (d : Byte) (s : State) {i : Instr} (h : i ∈ plainWrites d) :
    after i (after i s) = after i s := by
  cases i with
  | wrP1Ctrl | wrP2Ctrl | wrTriLinear | wrNoiseCtrl | wrNoisePeriod | wrDmcLoad | wrDmcAddr | wrDmcLen => rfl
  | wr4009Unused | wr400dUnused => rfl
  | wrP1Tlo b => exact congrArg s.setP1 (s.p1.writeTimerLow_twice b)
  | wrP2Tlo b => exact congrArg s.setP2 (s.p2.writeTimerLow_twice b)
  | wrTriTlo b => exact congrArg s.setT (s.t.writeTimerLow_twice b)
  | wrDmcCtrl b => exact congrArg s.setD (s.d.writeCtrl_twice b)
  | _ => simp [plainWrites] at h

/-- A $4015 write with bit 4 = 0 done twice is the write done once (20_memory.md R45(b)). -/
theorem after_wrStatus_twice (d : Byte) (s : State) (h : bit d 4 = false) :
    after (.wrStatus d) (after (.wrStatus d) s) = after (.wrStatus d) s := by
  have hoff : bitOf d 4 = false := (bitOf_eq_bit d 4).trans h
  simp [hoff]

/-- An operation that done twice is done once answers its own next state again. -/
theorem exec_next_again {i : Instr} {s t : State} (h : after i (after i s) = after i s) (ht : exec i s = .next t) :
    exec i t = .next t := by
  obtain rfl : t = after i s := next_eq_after ht
  rw [exec_eq_after, h]

/-- Settles O54: the fourteen plain writes by `after_plainWrite_twice`, the $4015 write by `after_wrStatus_twice`. -/
theorem plainRegisterWritesAreIdempotent : Obligations.PlainRegisterWritesAreIdempotent := by
  unfold Obligations.PlainRegisterWritesAreIdempotent
  intro d s t
  exact ⟨fun i hi => exec_next_again (after_plainWrite_twice d s hi),
    fun hbit => exec_next_again (after_wrStatus_twice d s hbit)⟩

end Sys2Proof.Machine
end

section
/-! Decoder and encoder are inverse (30_encoding.md R60-R64). `DecodesTo` lists the valid words with their operations,
one constructor per format of R61; every word is either listed or invalid by R62 (`decodesTo_or_invalid`). A proof about
a word that decodes is a case split on its format, and a proof that a word decodes names its format. -/

namespace Sys2Proof.Laws

open Sys2Proof.Safety
open Sys2Proof.Machine

/-! ### Packed words -/

@[simp] theorem opOf_packWord (op : BitVec 3) (a : Addr) (d : Byte) : opOf (packWord op a d) = op :=
  (packWord_fields op a d).1

@[simp] theorem rsvOf_packWord (op : BitVec 3) (a : Addr) (d : Byte) : rsvOf (packWord op a d) = 0#1 :=
  (packWord_fields op a d).2.1

@[simp] theorem addrOf_packWord (op : BitVec 3) (a : Addr) (d : Byte) : addrOf (packWord op a d) = a :=
  (packWord_fields op a d).2.2.1

@[simp] theorem dataOf_packWord (op : BitVec 3) (a : Addr) (d : Byte) : dataOf (packWord op a d) = d :=
  (packWord_fields op a d).2.2.2

/-- The eight values of the op field. -/
theorem op_cases (op : BitVec 3) :
    op = 0b000#3 ∨ op = 0b001#3 ∨ op = 0b010#3 ∨ op = 0b011#3 ∨ op = 0b100#3 ∨ op = 0b101#3 ∨ op = 0b110#3 ∨
      op = 0b111#3 := by
  revert op; decide

/-- A word with the reserved bit clear is packed from some fields (30_encoding.md R60). -/
theorem exists_packWord {w : OpWord} (h : rsvOf w ≠ 1#1) : ∃ op a d, w = packWord op a d :=
  ⟨_, _, _, (packWord_of_fields w (BitVec.eq_zero_or_eq_one _ |>.resolve_right h)).symm⟩

/-! ### The valid words -/

/-- The valid words and their operations, by format (30_encoding.md R61, R63, R64). -/
inductive DecodesTo : OpWord → Instr → Prop
  | write (a : Addr) (d : Byte) : DecodesTo (packWord 0b000#3 a d) (decodeWrite a d)
  | read (a : Addr) : DecodesTo (packWord 0b001#3 a 0#8) (decodeRead a)
  | cycle : DecodesTo (packWord 0b010#3 0#16 0#8) .cycle
  | qf : DecodesTo (packWord 0b011#3 0#16 0#8) .qf
  | hf : DecodesTo (packWord 0b100#3 0#16 0#8) .hf
  | reset : DecodesTo (packWord 0b101#3 0#16 0#8) .reset

/-- A listed word decodes to its operation. -/
theorem DecodesTo.decode_eq {w : OpWord} {i : Instr} (h : DecodesTo w i) : decode w = .ok i := by
  cases h <;> simp [decode, decodeControl]

/-- The conditions of 30_encoding.md R62 on the fields of a packed word. -/
theorem invalidWord_packWord_iff (op : BitVec 3) (a : Addr) (d : Byte) :
    InvalidWord (packWord op a d) ↔
      6 ≤ op.toNat ∨ (op.toNat = 1 ∧ d ≠ 0#8) ∨ ((2 ≤ op.toNat ∧ op.toNat ≤ 5) ∧ (a ≠ 0#16 ∨ d ≠ 0#8)) := by
  obtain ⟨hop, hrsv, haddr, hdata⟩ := fields_toNat (packWord op a d)
  rw [InvalidWord, ← hop, ← hrsv, ← haddr, ← hdata]
  simp [BitVec.toNat_eq]

/-- No listed word is invalid. -/
theorem DecodesTo.not_invalidWord {w : OpWord} {i : Instr} (h : DecodesTo w i) : ¬ InvalidWord w := by
  cases h <;> simp [invalidWord_packWord_iff]

/-- A control word is listed, or it is refused and invalid by the last condition of 30_encoding.md R62. -/
theorem control_decodesTo_or_invalid {op : BitVec 3} {i : Instr} (a : Addr) (d : Byte)
    (hop : 2 ≤ op.toNat ∧ op.toNat ≤ 5) (hdecode : decode (packWord op a d) = decodeControl i (packWord op a d))
    (hlisted : DecodesTo (packWord op 0#16 0#8) i) :
    (∃ j, DecodesTo (packWord op a d) j) ∨
      ∃ e, decode (packWord op a d) = .error e ∧ InvalidWord (packWord op a d) := by
  by_cases hzero : a = 0#16 ∧ d = 0#8
  · obtain ⟨rfl, rfl⟩ := hzero
    exact .inl ⟨i, hlisted⟩
  · refine .inr ⟨.controlField, ?_, ?_⟩
    · simp [hdecode, decodeControl, hzero]
    · exact (invalidWord_packWord_iff op a d).mpr (.inr (.inr ⟨hop, by rwa [← not_and_or]⟩))

/-- Every word is listed, or it is refused and invalid (30_encoding.md R62). -/
theorem decodesTo_or_invalid (w : OpWord) :
    (∃ i, DecodesTo w i) ∨ ∃ e, decode w = .error e ∧ InvalidWord w := by
  by_cases hrsv : rsvOf w = 1#1
  · have hbit : wordRsv w = 1 := by simp [← (fields_toNat w).2.1, hrsv]
    exact .inr ⟨.reservedBit, by simp [decode, hrsv], .inr (.inl hbit)⟩
  obtain ⟨op, a, d, rfl⟩ := exists_packWord hrsv
  obtain rfl | rfl | rfl | rfl | rfl | rfl | rfl | rfl := op_cases op
  · exact .inl ⟨_, .write a d⟩
  · by_cases hd : d = 0#8
    · subst hd
      exact .inl ⟨_, .read a⟩
    · exact .inr ⟨.readData, by simp [decode, hd], by simp [invalidWord_packWord_iff, hd]⟩
  · exact control_decodesTo_or_invalid a d (by decide) (by simp [decode]) .cycle
  · exact control_decodesTo_or_invalid a d (by decide) (by simp [decode]) .qf
  · exact control_decodesTo_or_invalid a d (by decide) (by simp [decode]) .hf
  · exact control_decodesTo_or_invalid a d (by decide) (by simp [decode]) .reset
  · exact .inr ⟨.reservedOp, by simp [decode], by simp [invalidWord_packWord_iff]⟩
  · exact .inr ⟨.reservedOp, by simp [decode], by simp [invalidWord_packWord_iff]⟩

/-- A word that decodes is listed with the operation it decodes to. -/
theorem decodesTo_of_decode {w : OpWord} {i : Instr} (h : decode w = .ok i) : DecodesTo w i := by
  obtain ⟨j, hj⟩ | ⟨e, he, -⟩ := decodesTo_or_invalid w
  · obtain rfl : j = i := Except.ok.inj (hj.decode_eq.symm.trans h)
    exact hj
  · simp [he] at h

/-! ### The round trip -/

/-- The operation a WRITE selects is well-formed, and its word is the WRITE (30_encoding.md R63). -/
theorem decodeWrite_wf_and_encode (a : Addr) (d : Byte) :
    (decodeWrite a d).wf = true ∧ encode (decodeWrite a d) = packWord 0b000#3 a d := by
  cases h : inWindow a with
  | true =>
    refine inWindow_cases (P := fun a => (decodeWrite a d).wf = true ∧ encode (decodeWrite a d) = packWord 0b000#3 a d)
      (fun k hk => ?_) ⟨rfl, rfl⟩ a h
    interval_cases k <;> exact ⟨rfl, rfl⟩
  | false => simp [decodeWrite_other d h, Instr.wf, encode, h]

/-- The operation a READ selects is well-formed, and its word is the READ (30_encoding.md R64). -/
theorem decodeRead_wf_and_encode (a : Addr) :
    (decodeRead a).wf = true ∧ encode (decodeRead a) = packWord 0b001#3 a 0#8 := by
  by_cases h : a = 0x4015#16 <;> simp [decodeRead, h, Instr.wf, encode]

/-- A listed word's operation is well-formed, and the word is its encoding. -/
theorem DecodesTo.wf_and_encode {w : OpWord} {i : Instr} (h : DecodesTo w i) : i.wf = true ∧ encode i = w := by
  cases h with
  | write a d => exact decodeWrite_wf_and_encode a d
  | read a => exact decodeRead_wf_and_encode a
  | cycle | qf | hf | reset => exact ⟨rfl, rfl⟩

/-- A well-formed operation's word is listed with it. -/
theorem decodesTo_encode {i : Instr} (h : i.wf = true) : DecodesTo (encode i) i := by
  cases i with
  | wrOther a d =>
    have hout : inWindow a = false := by simpa [Instr.wf] using h
    simpa [encode, decodeWrite_other d hout] using DecodesTo.write a d
  | rdStatus => exact .read 0x4015#16
  | rdOther a =>
    have hne : a ≠ 0x4015#16 := by simpa [Instr.wf] using h
    simpa [encode, decodeRead, hne] using DecodesTo.read a
  | cycle => exact .cycle
  | qf => exact .qf
  | hf => exact .hf
  | reset => exact .reset
  | _ => exact .write _ _

/-- Settles O1: the word of a well-formed operation is listed with it, and a listed word decodes to its operation. -/
theorem decodeOfEncodeIsTheOperation : Obligations.DecodeOfEncodeIsTheOperation := by
  unfold Obligations.DecodeOfEncodeIsTheOperation
  exact fun i hwf => (decodesTo_encode hwf).decode_eq

/-- Settles O2: a word that decodes is listed, and each format keeps every bit. -/
theorem encodeOfDecodeIsTheWord : Obligations.EncodeOfDecodeIsTheWord := by
  unfold Obligations.EncodeOfDecodeIsTheWord
  exact fun w i h => (decodesTo_of_decode h).wf_and_encode

/-! ### Validity and the selection by address -/

/-- Issuing a word that decodes answers its effect with the environment's reaction (60_exceptions.md R230). -/
theorem issueWord_of_decode_ok {w : OpWord} {i : Instr} (h : decode w = .ok i) (s : State) :
    issueWord w s = .next (react i (after i s)) := by
  simp [issueWord, issue, h, exec_eq_after]

/-- Issuing a word that does not decode is refused, for the decoder's reason (30_encoding.md R62). -/
theorem issueWord_of_decode_error {w : OpWord} {e : DecodeError} (h : decode w = .error e) (s : State) :
    issueWord w s = .refused (.invalidWord e) := by
  simp [issueWord, h]

/-- Settles O3: a word is listed or invalid, never both; a listed word's operation always answers a next state. -/
theorem invalidWordsAreRefusedAndValidOnesRun : Obligations.InvalidWordsAreRefusedAndValidOnesRun := by
  unfold Obligations.InvalidWordsAreRefusedAndValidOnesRun
  intro w s
  obtain ⟨i, hi⟩ | ⟨e, he, hinvalid⟩ := decodesTo_or_invalid w
  · have hdecode := hi.decode_eq
    exact ⟨fun h => absurd h hi.not_invalidWord, fun _ => ⟨i, _, hdecode, issueWord_of_decode_ok hdecode s⟩⟩
  · exact ⟨fun _ => ⟨e, he, issueWord_of_decode_error he s⟩, fun h => absurd hinvalid h⟩

/-- A WRITE word written by arithmetic (30_encoding.md R60, R63). -/
theorem decode_write_ofNat (a : Addr) (d : Byte) :
    decode (BitVec.ofNat 28 (256 * a.toNat + d.toNat)) = .ok (decodeWrite a d) := by
  simpa [packWord_eq_ofNat] using (DecodesTo.write a d).decode_eq

/-- A READ word written by arithmetic (30_encoding.md R60, R64). -/
theorem decode_read_ofNat (a : Addr) :
    decode (BitVec.ofNat 28 (0x2000000 + 256 * a.toNat)) = .ok (decodeRead a) := by
  simpa [packWord_eq_ofNat] using (DecodesTo.read a).decode_eq

/-- The addresses outside the window (10_state.md R19). -/
theorem not_inWindow_of_toNat {a : Addr} (h : a.toNat < 0x4000 ∨ a.toNat = 0x4014 ∨ 0x4016 ≤ a.toNat) :
    inWindow a = false := by
  rw [Bool.eq_false_iff]
  intro hin
  simp only [inWindow, Bool.or_eq_true, Bool.and_eq_true, decide_eq_true_eq, beq_iff_eq, BitVec.le_def, BitVec.toNat_eq,
    BitVec.toNat_ofNat] at hin
  omega

/-- Settles O4: each clause is `decode_write_ofNat` or `decode_read_ofNat` at its address. -/
theorem accessesSelectByAddress : Obligations.AccessesSelectByAddress := by
  unfold Obligations.AccessesSelectByAddress
  refine ⟨decode_read_ofNat 0x4015#16, fun a ha => ?_, fun d => ?_⟩
  · have hne : a ≠ 0x4015#16 := fun h => ha (by rw [h]; rfl)
    rw [decode_read_ofNat, decodeRead, if_neg hne]
  · have row (a : Addr) := decode_write_ofNat a d
    refine ⟨⟨row 0x4000#16, row 0x4001#16, row 0x4002#16, row 0x4003#16, row 0x4004#16, row 0x4005#16, row 0x4006#16,
        row 0x4007#16⟩,
      ⟨row 0x4008#16, row 0x4009#16, row 0x400A#16, row 0x400B#16, row 0x400C#16, row 0x400D#16, row 0x400E#16,
        row 0x400F#16⟩,
      ⟨row 0x4010#16, row 0x4011#16, row 0x4012#16, row 0x4013#16, row 0x4015#16⟩, fun a ha => ?_⟩
    rw [row, decodeWrite_other d (not_inWindow_of_toNat ha)]

end Sys2Proof.Laws
end

section
/-! How the common units run over many strobes, and which operations clock them (40_common_units.md R83, R85, R87, R89).
A unit that an operation clocks by itself alone, under registers the operation keeps, is after `k` of them its clock
iterated `k` times (`afterMany_eq_iterate`); what `k` clocks do to a counter is then a statement about the counter. -/

namespace Sys2Proof.Machine

open Sys2Proof.Safety

/-- A unit whose clock reads only the unit and registers that the operation keeps is clocked `k` times by `k` operations. -/
theorem afterMany_eq_iterate {ρ υ : Type} {i : Instr} {regs : State → ρ} {unit : State → υ} {clock : ρ → υ → υ}
    (hregs : ∀ s, regs (after i s) = regs s) (hunit : ∀ s, unit (after i s) = clock (regs s) (unit s)) (k : Nat)
    (s : State) : unit (afterMany i k s) = (clock (regs s))^[k] (unit s) := by
  induction k generalizing s with
  | zero => rfl
  | succ k ih => rw [afterMany, ih, hregs, hunit, Function.iterate_succ_apply]

/-! ### Length counters -/

/-- The length counter after an HF by arithmetic (40_common_units.md R83). -/
theorem lengthClock_eq_ofNat (halt : Bool) (len : BitVec 8) :
    lengthClock halt len = if 0 < len.toNat ∧ halt = false then BitVec.ofNat 8 (len.toNat - 1) else len := by
  simp only [lengthClock, ne_zero_iff_toNat_pos]
  split
  · next h => rw [← toNat_pred len ((ne_zero_iff_toNat_pos len).mpr h.1), BitVec.ofNat_toNat, BitVec.setWidth_eq]
  · rfl

/-- Settles O35: the four counters go through `lengthClock`; a sweep clock writes no field but the three left open. -/
theorem halfFrameClocksLengthCounters : Obligations.HalfFrameClocksLengthCounters := by
  unfold Obligations.HalfFrameClocksLengthCounters
  intro s
  refine ⟨_, exec_eq_after .hf s, ?_⟩
  simp only [← lengthClock_eq_ofNat]
  rfl

/-- A length counter after `k` HFs has lost `k`, down to 0, unless it is halted (40_common_units.md R83). -/
theorem lengthClock_iterate_toNat (halt : Bool) (k : Nat) (len : BitVec 8) :
    ((lengthClock halt)^[k] len).toNat = if halt then len.toNat else len.toNat - k := by
  induction k with
  | zero => simp
  | succ k ih =>
    rw [Function.iterate_succ_apply', lengthClock_toNat, ih]
    cases halt
    · exact Nat.sub_sub ..
    · rfl

/-- A length counter that an HF clocks under its halt flag, over `k` HFs (40_common_units.md R83). -/
theorem length_afterMany_hf {halt : State → Bool} {len : State → BitVec 8}
    (hhalt : ∀ s, halt (after .hf s) = halt s) (hlen : ∀ s, len (after .hf s) = lengthClock (halt s) (len s))
    (k : Nat) (s : State) :
    (len (afterMany .hf k s)).toNat = if halt s then (len s).toNat else (len s).toNat - k := by
  rw [afterMany_eq_iterate hhalt hlen, lengthClock_iterate_toNat]

/-- Settles O39: `length_afterMany_hf` for each of the four counters and its halt flag. -/
theorem lengthCountersAfterManyHalfFrames : Obligations.LengthCountersAfterManyHalfFrames := by
  unfold Obligations.LengthCountersAfterManyHalfFrames
  intro k s
  exact ⟨length_afterMany_hf (halt := (·.p1.halt)) (len := (·.p1.len)) (fun _ => rfl) (fun _ => rfl) k s,
    length_afterMany_hf (halt := (·.p2.halt)) (len := (·.p2.len)) (fun _ => rfl) (fun _ => rfl) k s,
    length_afterMany_hf (halt := (·.t.ctrl)) (len := (·.t.len)) (fun _ => rfl) (fun _ => rfl) k s,
    length_afterMany_hf (halt := (·.n.halt)) (len := (·.n.len)) (fun _ => rfl) (fun _ => rfl) k s⟩

/-! ### Envelopes -/

/-- The decay level of an envelope `q` full periods after its start (40_common_units.md R87). -/
def decayAfterPeriods (loop : Bool) (q : Nat) : Nat := if loop then 15 - q % 16 else 15 - q

/-- An envelope `k` QFs after the one that started it: `k % (vol + 1)` QFs into a period, `k / (vol + 1)` periods done. -/
structure Envelope.StartedFor (vol : BitVec 4) (loop : Bool) (k : Nat) (e : Envelope) : Prop where
  start : e.start = false
  div : e.div.toNat = vol.toNat - k % (vol.toNat + 1)
  decay : e.decay.toNat = decayAfterPeriods loop (k / (vol.toNat + 1))

/-- The QF that finds the start flag set (40_common_units.md R87). -/
theorem Envelope.StartedFor.of_start {e : Envelope} (h : e.start = true) (vol : BitVec 4) (loop : Bool) :
    (e.clock vol loop).StartedFor vol loop 0 := by
  have hclock : e.clock vol loop = { start := false, decay := 15#4, div := vol } := by simp [Envelope.clock, h]
  rw [hclock]
  exact ⟨rfl, by simp, by simp [decayAfterPeriods]⟩

/-- A QF that finds the divider above 0 only counts it down (40_common_units.md R87). -/
theorem Envelope.clock_of_div_ne_zero {e : Envelope} (hstart : e.start = false) (hdiv : e.div ≠ 0#4) (vol : BitVec 4)
    (loop : Bool) : e.clock vol loop = { e with div := e.div - 1#4 } := by
  simp [Envelope.clock, hstart, hdiv]

/-- A QF that finds the divider at 0 reloads it and takes the decay level one down, from 0 to 15 if it loops
(40_common_units.md R87). -/
theorem Envelope.clock_of_div_eq_zero {e : Envelope} (hstart : e.start = false) (hdiv : e.div = 0#4) (vol : BitVec 4)
    (loop : Bool) :
    (e.clock vol loop).start = false ∧ (e.clock vol loop).div = vol ∧
      (e.clock vol loop).decay.toNat = if e.decay.toNat = 0 ∧ loop = true then 15 else e.decay.toNat - 1 := by
  by_cases hdecay : e.decay = 0#4
  · cases loop <;> simp [Envelope.clock, hstart, hdiv, hdecay]
  · have hpos := (ne_zero_iff_toNat_pos _).mp hdecay
    have hpred := toNat_pred e.decay hdecay
    simp [Envelope.clock, hstart, hdiv, hdecay, hpos.ne', -BitVec.toNat_sub, hpred]

/-- One more period takes the decay level one down, from 0 to 15 if it loops. -/
theorem decayAfterPeriods_succ (loop : Bool) (q : Nat) :
    decayAfterPeriods loop (q + 1) =
      if decayAfterPeriods loop q = 0 ∧ loop = true then 15 else decayAfterPeriods loop q - 1 := by
  cases loop with
  | false => simp [decayAfterPeriods, Nat.sub_sub]
  | true =>
    simp only [decayAfterPeriods, if_true, and_true]
    split <;> omega

/-- A QF takes a started envelope one QF further: within a period, or from its end into the next one. -/
theorem Envelope.StartedFor.clock {vol : BitVec 4} {loop : Bool} {k : Nat} {e : Envelope}
    (h : e.StartedFor vol loop k) : (e.clock vol loop).StartedFor vol loop (k + 1) := by
  obtain ⟨hstart, hdiv, hdecay⟩ := h
  by_cases h0 : e.div = 0#4
  · have hend : (k + 1) % (vol.toNat + 1) = 0 := by
      have hmod : k % (vol.toNat + 1) < vol.toNat + 1 := Nat.mod_lt _ vol.toNat.succ_pos
      rw [h0, BitVec.toNat_zero] at hdiv
      exact Nat.succ_mod_succ_eq_zero_iff.mpr (by omega)
    obtain ⟨hstart', hdiv', hdecay'⟩ := Envelope.clock_of_div_eq_zero hstart h0 vol loop
    refine ⟨hstart', ?_, ?_⟩
    · rw [hdiv', hend, Nat.sub_zero]
    · rw [hdecay', hdecay, Nat.succ_div_of_mod_eq_zero hend, decayAfterPeriods_succ]
  · have hpos := (ne_zero_iff_toNat_pos _).mp h0
    have hin : (k + 1) % (vol.toNat + 1) ≠ 0 := by rw [ne_eq, Nat.succ_mod_succ_eq_zero_iff]; omega
    have hsame := Nat.succ_div_of_mod_ne_zero hin
    have hmod : (k + 1) % (vol.toNat + 1) = k % (vol.toNat + 1) + 1 := by
      have hk := Nat.div_add_mod k (vol.toNat + 1)
      have hk1 := Nat.div_add_mod (k + 1) (vol.toNat + 1)
      rw [hsame] at hk1
      omega
    rw [Envelope.clock_of_div_ne_zero hstart h0]
    refine ⟨hstart, ?_, ?_⟩
    · rw [toNat_pred _ h0, hdiv, hmod, Nat.sub_sub]
    · rw [hdecay, hsame]

/-- `k` QFs after the one that starts an envelope (40_common_units.md R87). -/
theorem Envelope.StartedFor.iterate {e : Envelope} (h : e.start = true) (vol : BitVec 4) (loop : Bool) (k : Nat) :
    ((Envelope.clock vol loop)^[k + 1] e).StartedFor vol loop k := by
  induction k with
  | zero => exact .of_start h vol loop
  | succ k ih => rw [Function.iterate_succ_apply']; exact ih.clock

/-- An envelope that a QF clocks under its registers, `k` QFs after the one that starts it (40_common_units.md R87). -/
theorem decay_afterMany_qf {regs : State → BitVec 4 × Bool} {env : State → Envelope}
    (hregs : ∀ s, regs (after .qf s) = regs s) (henv : ∀ s, env (after .qf s) = (env s).clock (regs s).1 (regs s).2)
    (k : Nat) (s : State) (h : (env s).start = true) :
    (env (afterMany .qf (k + 1) s)).decay.toNat = decayAfterPeriods (regs s).2 (k / ((regs s).1.toNat + 1)) := by
  rw [afterMany_eq_iterate (clock := fun r => Envelope.clock r.1 r.2) hregs henv]
  exact (Envelope.StartedFor.iterate h _ _ k).decay

/-- Settles O40: `decay_afterMany_qf` for each of the three envelopes and its registers. -/
theorem envelopeDecayAfterManyQuarterFrames : Obligations.EnvelopeDecayAfterManyQuarterFrames := by
  unfold Obligations.EnvelopeDecayAfterManyQuarterFrames
  intro k s
  exact ⟨decay_afterMany_qf (regs := fun s => (s.p1.vol, s.p1.halt)) (env := (·.p1.env)) (fun _ => rfl) (fun _ => rfl) k s,
    decay_afterMany_qf (regs := fun s => (s.p2.vol, s.p2.halt)) (env := (·.p2.env)) (fun _ => rfl) (fun _ => rfl) k s,
    decay_afterMany_qf (regs := fun s => (s.n.vol, s.n.halt)) (env := (·.n.env)) (fun _ => rfl) (fun _ => rfl) k s⟩

/-! ### Silence -/

/-- A Pulse generator whose length counter is 0 is silent (41_pulse.md R107). -/
theorem Pulse.raw_of_len_zero {p : Pulse} (h : p.len = 0) (mode : NegateMode) (n : PulseId) : p.raw mode n = 0 :=
  if_neg fun hsounds => hsounds.1 h

/-- A Noise generator whose length counter is 0 is silent (43_noise.md R164). -/
theorem Noise.raw_of_len_zero {n : Noise} (h : n.len = 0) : n.raw = 0 :=
  if_neg fun hsounds => hsounds.1 h

/-- No number of timer clocks steps a Triangle whose length counter is 0 (42_triangle.md R142). -/
theorem Triangle.timerClock_iterate_seq {t : Triangle} (h : t.len = 0) (mode : TriUltrasonic) (k : Nat) :
    ((Triangle.timerClock mode)^[k] t).seq = t.seq := by
  induction k generalizing t with
  | zero => rfl
  | succ k ih =>
    have hseq : (t.timerClock mode).seq = t.seq := if_neg fun hsteps => hsteps.2.2.1 h
    rw [Function.iterate_succ_apply, ih (t := t.timerClock mode) h, hseq]

/-- Settles O57: the raw outputs by their definitions; the Triangle over `k` CYCLEs is its timer clock iterated. -/
theorem zeroLengthSilences : Obligations.ZeroLengthSilences := by
  unfold Obligations.ZeroLengthSilences
  intro s
  refine ⟨fun h => Pulse.raw_of_len_zero h _ _, fun h => Pulse.raw_of_len_zero h _ _, fun h => Noise.raw_of_len_zero h,
    fun h k => ?_⟩
  have ht : (afterMany .cycle k s).t = (Triangle.timerClock s.cfg.triUltrasonic)^[k] s.t :=
    afterMany_eq_iterate (regs := (·.cfg.triUltrasonic)) (unit := (·.t)) (fun s => by simp) (fun s => by simp) k s
  rw [ht, Triangle.timerClock_iterate_seq h]

/-! ### Which operations clock the units -/

/-- Only a $4015 write changes the enable flags, RESET aside (10_state.md R12, R37). -/
theorem after_en_of_ne_wrStatus {i : Instr} (s : State) (hreset : i ≠ .reset) (h : ∀ d, i ≠ .wrStatus d) :
    (after i s).en = s.en := by
  cases i with
  | reset => exact absurd rfl hreset
  | wrStatus d => exact absurd rfl (h d)
  | cycle => rw [after_cycle, cycleState_en]
  | _ => rfl

/-- Only a QF clocks the envelopes and the linear counter; the writes that load a length set their start and reload flags
(40_common_units.md R86, R89; 42_triangle.md R144). -/
theorem after_envelopes_of_ne_qf {i : Instr} (s : State) (hreset : i ≠ .reset) (hqf : i ≠ .qf) :
    (after i s).p1.env.div = s.p1.env.div ∧ (after i s).p1.env.decay = s.p1.env.decay ∧
    (after i s).p2.env.div = s.p2.env.div ∧ (after i s).p2.env.decay = s.p2.env.decay ∧
    (after i s).n.env.div = s.n.env.div ∧ (after i s).n.env.decay = s.n.env.decay ∧ (after i s).t.lin = s.t.lin ∧
    ((∀ d, i ≠ .wrP1Thi d) → (after i s).p1.env.start = s.p1.env.start) ∧
    ((∀ d, i ≠ .wrP2Thi d) → (after i s).p2.env.start = s.p2.env.start) ∧
    ((∀ d, i ≠ .wrNoiseLen d) → (after i s).n.env.start = s.n.env.start) ∧
    ((∀ d, i ≠ .wrTriThi d) → (after i s).t.linReload = s.t.linReload) := by
  cases i with
  | reset => exact absurd rfl hreset
  | qf => exact absurd rfl hqf
  | cycle => cases h : s.apuOdd <;> simp [h, Pulse.timerClock_eq, Noise.timerClock, Triangle.timerClock]
  | wrP1Thi | wrP2Thi => simp [Pulse.writeTimerHigh]
  | wrNoiseLen => simp [Noise.writeLength]
  | wrTriThi => simp [Triangle.writeTimerHigh]
  | _ => exact ⟨rfl, rfl, rfl, rfl, rfl, rfl, rfl, fun _ => rfl, fun _ => rfl, fun _ => rfl, fun _ => rfl⟩

/-- Only an HF clocks the sweep units and the length counters; the other changes are those of the writes named
(40_common_units.md R82, R84, R89; 41_pulse.md R106). -/
theorem after_sweeps_and_lengths_of_ne_hf {i : Instr} (s : State) (hreset : i ≠ .reset) (hhf : i ≠ .hf) :
    (after i s).p1.swDiv = s.p1.swDiv ∧ (after i s).p2.swDiv = s.p2.swDiv ∧
    ((∀ d, i ≠ .wrP1Sweep d) → (after i s).p1.swReload = s.p1.swReload) ∧
    ((∀ d, i ≠ .wrP2Sweep d) → (after i s).p2.swReload = s.p2.swReload) ∧
    ((∀ d, i ≠ .wrP1Tlo d ∧ i ≠ .wrP1Thi d) → (after i s).p1.period = s.p1.period) ∧
    ((∀ d, i ≠ .wrP2Tlo d ∧ i ≠ .wrP2Thi d) → (after i s).p2.period = s.p2.period) ∧
    ((∀ d, i ≠ .wrP1Thi d ∧ i ≠ .wrStatus d) → (after i s).p1.len = s.p1.len) ∧
    ((∀ d, i ≠ .wrP2Thi d ∧ i ≠ .wrStatus d) → (after i s).p2.len = s.p2.len) ∧
    ((∀ d, i ≠ .wrTriThi d ∧ i ≠ .wrStatus d) → (after i s).t.len = s.t.len) ∧
    ((∀ d, i ≠ .wrNoiseLen d ∧ i ≠ .wrStatus d) → (after i s).n.len = s.n.len) := by
  cases i with
  | reset => exact absurd rfl hreset
  | hf => exact absurd rfl hhf
  | cycle => cases h : s.apuOdd <;> simp [h, Pulse.timerClock_eq, Noise.timerClock, Triangle.timerClock]
  | wrP1Sweep | wrP2Sweep => simp [Pulse.writeSweep]
  | wrP1Tlo | wrP2Tlo => simp [Pulse.writeTimerLow]
  | wrP1Thi | wrP2Thi => simp [Pulse.writeTimerHigh]
  | wrTriThi => simp [Triangle.writeTimerHigh]
  | wrNoiseLen => simp [Noise.writeLength]
  | wrStatus => simp
  | _ =>
    exact ⟨rfl, rfl, fun _ => rfl, fun _ => rfl, fun _ => rfl, fun _ => rfl, fun _ => rfl, fun _ => rfl, fun _ => rfl,
      fun _ => rfl⟩

/-- Only a CYCLE clocks the timers, the sequencers, the LFSR, the phase and the DMC's output unit and reader; the other
changes are those of the writes named (40_common_units.md R89; 45_status_and_clocking.md R219). -/
theorem after_timers_and_dmc_of_ne_cycle {i : Instr} (s : State) (hreset : i ≠ .reset) (hcycle : i ≠ .cycle) :
    (after i s).p1.timer = s.p1.timer ∧ (after i s).p2.timer = s.p2.timer ∧ (after i s).t.timer = s.t.timer ∧
    (after i s).n.timer = s.n.timer ∧ (after i s).d.timer = s.d.timer ∧ (after i s).t.seq = s.t.seq ∧
    (after i s).n.lfsr = s.n.lfsr ∧ (after i s).apuOdd = s.apuOdd ∧ (after i s).d.shift = s.d.shift ∧
    (after i s).d.bitsLeft = s.d.bitsLeft ∧ (after i s).d.buffer = s.d.buffer ∧
    (after i s).d.silence = s.d.silence ∧ (after i s).d.bufEmpty = s.d.bufEmpty ∧
    ((∀ d, i ≠ .wrP1Thi d) → (after i s).p1.seq = s.p1.seq) ∧
    ((∀ d, i ≠ .wrP2Thi d) → (after i s).p2.seq = s.p2.seq) ∧
    ((∀ d, i ≠ .wrDmcLoad d) → (after i s).d.level = s.d.level) ∧
    ((∀ d, i ≠ .wrStatus d) → (after i s).d.curAddr = s.d.curAddr ∧ (after i s).d.bytesLeft = s.d.bytesLeft) := by
  cases i with
  | reset => exact absurd rfl hreset
  | cycle => exact absurd rfl hcycle
  | wrP1Thi | wrP2Thi => simp [Pulse.writeTimerHigh]
  | wrDmcLoad => simp [Dmc.writeLoad]
  | wrStatus d => simp [Dmc.writeEnable_frame]
  | _ =>
    exact ⟨rfl, rfl, rfl, rfl, rfl, rfl, rfl, rfl, rfl, rfl, rfl, rfl, rfl, fun _ => rfl, fun _ => rfl, fun _ => rfl,
      fun _ => ⟨rfl, rfl⟩⟩

/-- Settles O52: one lemma for the enables and one per strobe, each by cases over the operations. -/
theorem onlyTheirStrobesClockTheUnits : Obligations.OnlyTheirStrobesClockTheUnits := by
  unfold Obligations.OnlyTheirStrobesClockTheUnits
  intro i s t ht hreset
  obtain rfl : t = after i s := next_eq_after ht
  exact ⟨after_en_of_ne_wrStatus s hreset, after_envelopes_of_ne_qf s hreset,
    after_sweeps_and_lengths_of_ne_hf s hreset, after_timers_and_dmc_of_ne_cycle s hreset⟩

end Sys2Proof.Machine
end

section
/-! The Pulse generators (41_pulse.md): what the writes of their registers set, the sweep target and what it mutes, the
sweep unit over an HF, and the timer over CYCLEs. A timer in range comes back to its value after `period + 1` APU cycles
with the sequencer one step down (`Pulse.timerClock_iterate_period`), and two CYCLEs are one APU cycle whatever the phase
(`pulse_afterMany_cycle`); the waveform period is the two together. -/

namespace Sys2Proof.Machine

open Sys2Proof.Safety

/-! ### Register writes -/

/-- A duty/envelope write by arithmetic (10_state.md R20). -/
theorem Pulse.writeCtrl_eq (d : Byte) (p : Pulse) :
    p.writeCtrl d = { p with
      duty := BitVec.ofNat 2 (bits d 6 2), halt := bit d 5, constVol := bit d 4, vol := BitVec.ofNat 4 (bits d 0 4) } := by
  simp only [Pulse.writeCtrl, fieldOf_eq_bits, bitOf_eq_bit]

/-- A sweep write by arithmetic (10_state.md R21). -/
theorem Pulse.writeSweep_eq (d : Byte) (p : Pulse) :
    p.writeSweep d = { p with
      swEn := bit d 7, swPeriod := BitVec.ofNat 3 (bits d 4 3), swNeg := bit d 3,
      swShift := BitVec.ofNat 3 (bits d 0 3), swReload := true } := by
  simp only [Pulse.writeSweep, fieldOf_eq_bits, bitOf_eq_bit]

/-- The table entry that data[7:3] selects (30_encoding.md R65; 40_common_units.md R81). -/
theorem lengthOf_lengthIndex (d : Byte) : lengthOf (lengthIndex d) = loadedLength d := by
  have hindex : (lengthIndex d).toNat = bits d 3 5 := by
    rw [lengthIndex, fieldOf_eq_bits, BitVec.toNat_ofNat, bits, Nat.mod_mod]
  rw [lengthOf, hindex]
  rfl

/-- A length/timer-high write by arithmetic (10_state.md R23). -/
theorem Pulse.writeTimerHigh_eq (enabled : Bool) (d : Byte) (p : Pulse) :
    p.writeTimerHigh enabled d = { p with
      period := period11 (bits d 0 3) (p.period.toNat % 256),
      len := if enabled then loadedLength d else p.len,
      seq := 0, env := { p.env with start := true } } := by
  simp only [Pulse.writeTimerHigh, withPeriodHigh_eq, lengthLoad, lengthOf_lengthIndex, BitVec.ofNat_eq_ofNat]

/-- Settles O11: the two register writes by arithmetic, for each generator. -/
theorem pulseControlAndSweepWrites : Obligations.PulseControlAndSweepWrites := by
  unfold Obligations.PulseControlAndSweepWrites
  intro d s
  simp only [← Pulse.writeCtrl_eq, ← Pulse.writeSweep_eq]
  exact ⟨rfl, rfl, rfl, rfl⟩

/-- Settles O12: the low period byte by arithmetic, for each of the three generators with an 11-bit period. -/
theorem timerLowWrites : Obligations.TimerLowWrites := by
  unfold Obligations.TimerLowWrites
  intro d s
  simp only [← withPeriodLow_eq]
  exact ⟨rfl, rfl, rfl⟩

/-- Settles O13: the write by arithmetic, under each generator's own enable flag. -/
theorem pulseTimerHighWrites : Obligations.PulseTimerHighWrites := by
  unfold Obligations.PulseTimerHighWrites
  intro d s
  simp only [← Pulse.writeTimerHigh_eq]
  exact ⟨rfl, rfl⟩

/-! ### The sweep target and muting -/

/-- The change is a division by a power of two (41_pulse.md R104). -/
theorem Pulse.change_eq (p : Pulse) : p.change = p.period.toNat / 2 ^ p.swShift.toNat :=
  Nat.shiftRight_eq_div_pow ..

/-- The change never exceeds the period (41_pulse.md R104). -/
theorem Pulse.change_le_period (p : Pulse) : p.change ≤ p.period.toNat := by
  rw [Pulse.change_eq]; exact Nat.div_le_self ..

/-- The target in the natural numbers, whose truncated subtraction is the clamp at 0 (41_pulse.md R104). -/
theorem Pulse.target_eq (mode : NegateMode) (n : PulseId) (p : Pulse) :
    p.target mode n =
      if p.swNeg = false then p.period.toNat + p.change
      else if n = .one ∧ mode = .ones then p.period.toNat - (p.change + 1)
      else p.period.toNat - p.change := by
  unfold Pulse.target Pulse.rawTarget
  split
  · rfl
  · split <;> omega

/-- A downward sweep never aims above the period (41_pulse.md R104). -/
theorem Pulse.target_le_period {p : Pulse} (h : p.swNeg = true) (mode : NegateMode) (n : PulseId) :
    p.target mode n ≤ p.period.toNat := by
  rw [Pulse.target_eq, if_neg (by simp [h])]
  split <;> exact Nat.sub_le ..

/-- Settles O21: `Pulse.target_eq` case by case; the period is at most 2047 and the change at most the period. -/
theorem sweepTargetValue : Obligations.SweepTargetValue := by
  unfold Obligations.SweepTargetValue
  intro mode n p
  simp only [← Pulse.change_eq]
  have hperiod : p.period.toNat ≤ 2047 := Nat.le_of_lt_succ p.period.isLt
  have hchange := p.change_le_period
  rw [Pulse.target_eq]
  refine ⟨fun hup => if_pos hup, fun hdown hone hones => ?_, fun hdown hnot => ?_, ?_⟩
  · rw [if_neg (by simp [hdown]), if_pos ⟨hone, hones⟩]
  · rw [if_neg (by simp [hdown]), if_neg hnot]
  · split
    · omega
    · split <;> omega

/-- When a Pulse generator is muted (41_pulse.md R105). -/
theorem Pulse.muted_iff (mode : NegateMode) (n : PulseId) (p : Pulse) :
    p.muted mode n = true ↔ p.period.toNat < 8 ∨ 0x7FF < p.target mode n := by
  simp [Pulse.muted]

/-- Only an upward sweep aims above $7FF: a downward one stays at or below the period (41_pulse.md R104). -/
theorem Pulse.target_overflows_iff (mode : NegateMode) (n : PulseId) (p : Pulse) :
    0x7FF < p.target mode n ↔ p.swNeg = false ∧ 0x7FF < p.period.toNat + p.change := by
  cases h : p.swNeg with
  | false => simp [Pulse.target_eq, h]
  | true =>
    have hperiod := p.period.isLt
    have htarget := Pulse.target_le_period h mode n
    simp only [Bool.true_eq_false, false_and, iff_false]
    omega

/-- With shift 0 the change is the period, so an upward sweep doubles it (70_reset_and_hazards.md R265). -/
theorem Pulse.change_of_swShift_zero {p : Pulse} (h : p.swShift = 0) : p.change = p.period.toNat := by
  simp [Pulse.change_eq, h]

/-- Settles O22: neither the target nor the test for muting reads the sweep enable. -/
theorem mutingIgnoresTheSweepEnable : Obligations.MutingIgnoresTheSweepEnable := by
  unfold Obligations.MutingIgnoresTheSweepEnable
  intro mode n p e
  simp only [← Pulse.change_eq]
  rw [← Pulse.target_overflows_iff mode n]
  refine ⟨p.muted_iff mode n, p.muted_iff mode n, rfl, fun hup hshift hperiod => ?_⟩
  rw [Pulse.muted_iff, Pulse.target_overflows_iff, Pulse.change_of_swShift_zero hshift]
  exact .inr ⟨hup, by omega⟩

/-! ### The raw output -/

/-- DUTY_TABLE with each row as a byte, step 0 in bit 0 (41_pulse.md R101). -/
theorem dutyValue_eq (duty : BitVec 2) (seq : BitVec 3) :
    dutyValue duty seq = ([0x02, 0x06, 0x1E, 0xF9] : List Nat).getD duty.toNat 0 / 2 ^ seq.toNat % 2 := by
  revert duty seq; decide

/-- The volume as a number (40_common_units.md R88). -/
theorem Pulse.volume_toNat (p : Pulse) :
    p.volume.toNat = if p.constVol then p.vol.toNat else p.env.decay.toNat := by
  rw [Pulse.volume, envelopeVolume, apply_ite BitVec.toNat]

/-- Settles O23: `raw.Pn` with the duty row and the volume as numbers. -/
theorem pulseRawOutput : Obligations.PulseRawOutput := by
  unfold Obligations.PulseRawOutput
  intro mode n p
  rw [← dutyValue_eq, ← Pulse.volume_toNat]
  rfl

/-! ### The sweep unit over an HF -/

/-- When an HF writes the target into the period (41_pulse.md R106). -/
theorem Pulse.sweepFires_iff (mode : NegateMode) (n : PulseId) (p : Pulse) :
    p.sweepFires mode n = true ↔ p.swDiv = 0 ∧ p.swEn = true ∧ p.swShift ≠ 0 ∧ p.muted mode n = false := by
  simp [Pulse.sweepFires, and_assoc]

/-- A sweep that fires writes the whole target: not muted, it fits the period's 11 bits (41_pulse.md R105, R106). -/
theorem Pulse.sweepClock_period_of_fires {mode : NegateMode} {n : PulseId} {p : Pulse}
    (h : p.sweepFires mode n = true) : (p.sweepClock mode n).period.toNat = p.target mode n := by
  obtain ⟨-, -, -, hmuted⟩ := (p.sweepFires_iff mode n).mp h
  have hfits : ¬ (p.period.toNat < 8 ∨ 0x7FF < p.target mode n) := by
    rw [← Pulse.muted_iff, hmuted]; exact Bool.false_ne_true
  rw [Pulse.sweepClock, if_pos h, BitVec.toNat_ofNat]
  exact Nat.mod_eq_of_lt (by omega)

/-- A sweep that does not fire keeps the period (41_pulse.md R106). -/
theorem Pulse.sweepClock_period_of_not_fires {mode : NegateMode} {n : PulseId} {p : Pulse}
    (h : ¬ p.sweepFires mode n = true) : (p.sweepClock mode n).period = p.period :=
  if_neg h

/-- The sweep divider reloads at 0 or on the reload flag (41_pulse.md R106). -/
theorem Pulse.sweepClock_reloads {p : Pulse} (h : p.swDiv = 0 ∨ p.swReload = true) (mode : NegateMode) (n : PulseId) :
    (p.sweepClock mode n).swDiv = p.swPeriod ∧ (p.sweepClock mode n).swReload = false :=
  ⟨if_pos h, if_pos h⟩

/-- Else the sweep divider counts down, and the reload flag stays clear (41_pulse.md R106). -/
theorem Pulse.sweepClock_countsDown {p : Pulse} (hdiv : p.swDiv ≠ 0) (hreload : p.swReload = false) (mode : NegateMode)
    (n : PulseId) :
    (p.sweepClock mode n).swDiv.toNat = p.swDiv.toNat - 1 ∧ (p.sweepClock mode n).swReload = false := by
  have hkeeps : ¬ (p.swDiv = 0#3 ∨ p.swReload = true) := not_or.mpr ⟨hdiv, by simp [hreload]⟩
  rw [Pulse.sweepClock, if_neg hkeeps, if_neg hkeeps]
  exact ⟨toNat_pred p.swDiv hdiv, hreload⟩

/-- An HF's sweep clock: the period by whether the sweep fires, the divider and the reload flag by whether the divider
reloads (41_pulse.md R106). -/
theorem Pulse.sweepClock_spec (mode : NegateMode) (n : PulseId) (p : Pulse) :
    (p.swDiv = 0 → p.swEn = true → p.swShift ≠ 0 → p.muted mode n = false →
      (p.sweepClock mode n).period.toNat = p.target mode n) ∧
    (p.swDiv ≠ 0 ∨ p.swEn = false ∨ p.swShift = 0 ∨ p.muted mode n = true →
      (p.sweepClock mode n).period = p.period) ∧
    (p.swDiv = 0 ∨ p.swReload = true →
      (p.sweepClock mode n).swDiv = p.swPeriod ∧ (p.sweepClock mode n).swReload = false) ∧
    (p.swDiv ≠ 0 → p.swReload = false →
      (p.sweepClock mode n).swDiv.toNat = p.swDiv.toNat - 1 ∧ (p.sweepClock mode n).swReload = false) := by
  refine ⟨fun hdiv hen hshift hmuted => ?_, fun hidle => ?_, fun h => Pulse.sweepClock_reloads h mode n,
    fun hdiv hreload => Pulse.sweepClock_countsDown hdiv hreload mode n⟩
  · exact Pulse.sweepClock_period_of_fires ((p.sweepFires_iff mode n).mpr ⟨hdiv, hen, hshift, hmuted⟩)
  · refine Pulse.sweepClock_period_of_not_fires ?_
    rw [Pulse.sweepFires_iff]
    simpa only [not_and_or, ne_eq, not_not, Bool.not_eq_true, Bool.not_eq_false] using hidle

/-- Settles O36: `Pulse.sweepClock_spec` for each generator after its length clock, which writes no field the sweep reads. -/
theorem halfFrameClocksSweeps : Obligations.HalfFrameClocksSweeps := by
  unfold Obligations.HalfFrameClocksSweeps
  intro s
  exact ⟨_, exec_eq_after .hf s, List.forall_mem_cons.mpr
    ⟨s.p1.lengthClock.sweepClock_spec s.cfg.sweepNegateP1 .one, List.forall_mem_singleton.mpr
      (s.p2.lengthClock.sweepClock_spec s.cfg.sweepNegateP1 .two)⟩⟩

/-! ### The timer over CYCLEs -/

/-- A timer clock at 0 reloads the timer and steps the sequencer down (41_pulse.md R102, R103). -/
theorem Pulse.timerClock_of_timer_zero {p : Pulse} (h : p.timer = 0) :
    p.timerClock = { p with timer := p.period, seq := p.seq - 1#3 } := by
  simp [Pulse.timerClock_eq, h]

/-- A timer clock above 0 only counts down (41_pulse.md R102). -/
theorem Pulse.timerClock_of_timer_ne_zero {p : Pulse} (h : p.timer ≠ 0) :
    p.timerClock = { p with timer := p.timer - 1#11 } := by
  simp [Pulse.timerClock_eq, clockDivider_pos _ _ h]

/-- A timer clock by arithmetic (41_pulse.md R102, R103). -/
theorem Pulse.timerClock_eq_ofNat (p : Pulse) :
    p.timerClock =
      if p.timer = 0 then { p with timer := p.period, seq := BitVec.ofNat 3 ((p.seq.toNat + 7) % 8) }
      else { p with timer := BitVec.ofNat 11 (p.timer.toNat - 1) } := by
  split
  · next h =>
    have hseq : p.seq - 1#3 = BitVec.ofNat 3 ((p.seq.toNat + 7) % 8) := by bv_omega
    rw [Pulse.timerClock_of_timer_zero h, hseq]
  · next h =>
    rw [Pulse.timerClock_of_timer_ne_zero h, ← toNat_pred _ h, BitVec.ofNat_toNat, BitVec.setWidth_eq]

/-- Settles O28: a CYCLE clocks both timers exactly when it finds the phase at 1. -/
theorem cycleClocksPulseTimersOnApuCycles : Obligations.CycleClocksPulseTimersOnApuCycles := by
  unfold Obligations.CycleClocksPulseTimersOnApuCycles
  intro s
  simp only [← Pulse.timerClock_eq_ofNat]
  refine ⟨_, exec_eq_after .cycle s, cycleState_apuOdd s, fun heven => ?_, fun hodd => ?_⟩
  · simp [heven]
  · simp [hodd]

/-- Up to 0 a timer only counts down (41_pulse.md R102). -/
theorem Pulse.timerClock_iterate_of_le {p : Pulse} {k : Nat} (h : k ≤ p.timer.toNat) :
    Pulse.timerClock^[k] p = { p with timer := p.timer - BitVec.ofNat 11 k } := by
  induction k with
  | zero => simp
  | succ k ih =>
    have hpos : p.timer - BitVec.ofNat 11 k ≠ 0 := by bv_omega
    rw [Function.iterate_succ_apply', ih (by omega), Pulse.timerClock_of_timer_ne_zero hpos, BitVec.ofNat_add, ← sub_sub]

/-- One clock after it has counted down to 0 a timer reloads, and the sequencer steps down (41_pulse.md R102, R103). -/
theorem Pulse.timerClock_iterate_reload (p : Pulse) :
    Pulse.timerClock^[p.timer.toNat + 1] p = { p with timer := p.period, seq := p.seq - 1#3 } := by
  rw [Function.iterate_succ_apply', Pulse.timerClock_iterate_of_le le_rfl, Pulse.timerClock_of_timer_zero (by simp)]

/-- A timer in range is back at its value after `period + 1` clocks, with the sequencer one step down: it counts down to
0, reloads, and counts down from the period (41_pulse.md R102, R103). -/
theorem Pulse.timerClock_iterate_period {p : Pulse} (h : p.timer.toNat ≤ p.period.toNat) :
    Pulse.timerClock^[p.period.toNat + 1] p = { p with seq := p.seq - 1#3 } := by
  have hsplit : p.period.toNat + 1 = p.period.toNat - p.timer.toNat + (p.timer.toNat + 1) := by omega
  have hback : p.period - BitVec.ofNat 11 (p.period.toNat - p.timer.toNat) = p.timer := by bv_omega
  rw [hsplit, Function.iterate_add_apply, Pulse.timerClock_iterate_reload,
    Pulse.timerClock_iterate_of_le (p := { p with timer := p.period, seq := p.seq - 1#3 }) (Nat.sub_le ..), hback]

/-- `k` periods of a timer in range are `k` steps of the sequencer (41_pulse.md R102, R103). -/
theorem Pulse.timerClock_iterate_periods {p : Pulse} (h : p.timer.toNat ≤ p.period.toNat) (k : Nat) :
    Pulse.timerClock^[k * (p.period.toNat + 1)] p = { p with seq := p.seq - BitVec.ofNat 3 k } := by
  induction k with
  | zero => simp
  | succ k ih =>
    have hnext := Pulse.timerClock_iterate_period (p := { p with seq := p.seq - BitVec.ofNat 3 k }) h
    rw [Nat.succ_mul, Nat.add_comm, Function.iterate_add_apply, ih, hnext, BitVec.ofNat_add, ← sub_sub]

/-- Two CYCLEs are one APU cycle for a Pulse generator, whichever phase they begin in (45_status_and_clocking.md R214). -/
theorem pulse_afterMany_cycle {unit : State → Pulse}
    (hunit : ∀ s, unit (cycleState s) = if s.apuOdd then (unit s).timerClock else unit s) (m : Nat) (s : State) :
    unit (afterMany .cycle (2 * m) s) = Pulse.timerClock^[m] (unit s) := by
  induction m generalizing s with
  | zero => rfl
  | succ m ih =>
    have hpair : unit (cycleState (cycleState s)) = (unit s).timerClock := by
      cases h : s.apuOdd <;> simp [hunit, h]
    rw [Function.iterate_succ_apply, ← hpair]
    exact ih _

/-- The waveform of a Pulse generator over CYCLEs (41_pulse.md R102, R103; 70_reset_and_hazards.md R271). -/
theorem pulse_waveform_period {unit : State → Pulse}
    (hunit : ∀ s, unit (cycleState s) = if s.apuOdd then (unit s).timerClock else unit s) (k : Nat) (s : State)
    (h : (unit s).timer.toNat ≤ (unit s).period.toNat) :
    unit (afterMany .cycle (k * (2 * ((unit s).period.toNat + 1))) s) =
        { unit s with seq := (unit s).seq - BitVec.ofNat 3 k } ∧
      unit (afterMany .cycle (16 * ((unit s).period.toNat + 1)) s) = unit s := by
  have hsteps : ∀ j, unit (afterMany .cycle (2 * (j * ((unit s).period.toNat + 1))) s) =
      { unit s with seq := (unit s).seq - BitVec.ofNat 3 j } := fun j => by
    rw [pulse_afterMany_cycle hunit, Pulse.timerClock_iterate_periods h]
  have hround : (unit s).seq - BitVec.ofNat 3 8 = (unit s).seq := BitVec.sub_zero _
  constructor
  · rw [Nat.mul_left_comm, hsteps]
  · rw [show 16 = 2 * 8 from rfl, Nat.mul_assoc, hsteps, hround]

/-- Settles O43: `pulse_waveform_period` for each generator. -/
theorem pulsePeriodInCpuCycles : Obligations.PulsePeriodInCpuCycles := by
  unfold Obligations.PulsePeriodInCpuCycles
  intro k s
  exact ⟨pulse_waveform_period cycleState_p1 k s, pulse_waveform_period cycleState_p2 k s⟩

end Sys2Proof.Machine
end

section
/-! The Triangle generator (42_triangle.md): what the writes of its registers set, its timer over CYCLEs and its linear
counter over QFs. The counters and the frozen periods gate the sequencer alone (`Triangle.Ungated`); the timer is a
divider that runs freely, and the waveform period is a fact about any unit behind one (`DividerRun.iterate_periods`). -/

namespace Sys2Proof.Machine

open Sys2Proof.Safety

/-! ### Writes -/

/-- A linear-counter write by arithmetic (10_state.md R24). -/
theorem Triangle.writeLinear_eq (d : Byte) (t : Triangle) :
    t.writeLinear d = { t with ctrl := bit d 7, linLoad := BitVec.ofNat 7 (bits d 0 7) } := by
  simp only [Triangle.writeLinear, fieldOf_eq_bits, bitOf_eq_bit]

/-- A length/timer-high write by arithmetic (10_state.md R27). -/
theorem Triangle.writeTimerHigh_eq (enabled : Bool) (d : Byte) (t : Triangle) :
    t.writeTimerHigh enabled d = { t with
      period := period11 (bits d 0 3) (t.period.toNat % 256),
      len := if enabled then loadedLength d else t.len,
      linReload := true } := by
  simp only [Triangle.writeTimerHigh, withPeriodHigh_eq, lengthLoad, lengthOf_lengthIndex]

/-- Settles O14: the two writes by arithmetic, the length load under the Triangle's enable flag. -/
theorem triangleWrites : Obligations.TriangleWrites := by
  unfold Obligations.TriangleWrites
  intro d s
  simp only [← Triangle.writeLinear_eq, ← Triangle.writeTimerHigh_eq]
  exact ⟨exec_eq_after (.wrTriLinear d) s, exec_eq_after (.wrTriThi d) s⟩

/-- Settles O17: the next state of each of the four operations. -/
theorem unusedAndOtherAccessesChangeNothing : Obligations.UnusedAndOtherAccessesChangeNothing := by
  unfold Obligations.UnusedAndOtherAccessesChangeNothing
  intro a d s
  simp only [exec_eq_after, after_wr4009Unused, after_wr400dUnused, after_wrOther, after_rdOther, and_self]

/-! ### The timer and the sequencer of one CYCLE -/

/-- The gates of the sequencer are open: both counters are non-zero and the period is not a frozen one
(42_triangle.md R142, R143). -/
abbrev Triangle.Ungated (mode : TriUltrasonic) (t : Triangle) : Prop :=
  t.lin ≠ 0 ∧ t.len ≠ 0 ∧ ¬ (mode = .halt ∧ t.period.toNat < 2)

/-- The model's test for a frozen period (42_triangle.md R143). -/
theorem Triangle.ultrasonicHalt_eq_false_iff (mode : TriUltrasonic) (t : Triangle) :
    t.ultrasonicHalt mode = false ↔ ¬ (mode = .halt ∧ t.period.toNat < 2) := by
  simp [Triangle.ultrasonicHalt]

/-- A timer clock above 0 only counts down, whatever the gates (42_triangle.md R142). -/
theorem Triangle.timerClock_of_timer_ne_zero {t : Triangle} (h : t.timer ≠ 0) (mode : TriUltrasonic) :
    t.timerClock mode = { t with timer := t.timer - 1#11 } := by
  simp [Triangle.timerClock, clockDivider_pos _ _ h]

/-- A timer clock at 0 reloads the timer, and steps the sequencer if the gates let it (42_triangle.md R142, R143). -/
theorem Triangle.timerClock_of_timer_zero {t : Triangle} (h : t.timer = 0) (mode : TriUltrasonic) :
    t.timerClock mode =
      { t with timer := t.period, seq := if t.Ungated mode then t.seq + 1#5 else t.seq } := by
  simp [Triangle.timerClock, Triangle.Ungated, Triangle.ultrasonicHalt_eq_false_iff, h]

/-- A timer clock by arithmetic (42_triangle.md R142, R143). -/
theorem Triangle.timerClock_eq_ofNat (mode : TriUltrasonic) (t : Triangle) :
    t.timerClock mode =
      if t.timer = 0 then
        { t with
          timer := t.period
          seq := if t.Ungated mode then BitVec.ofNat 5 ((t.seq.toNat + 1) % 32) else t.seq }
      else { t with timer := BitVec.ofNat 11 (t.timer.toNat - 1) } := by
  split
  · next h =>
    have hseq : t.seq + 1#5 = BitVec.ofNat 5 ((t.seq.toNat + 1) % 32) := by bv_omega
    rw [Triangle.timerClock_of_timer_zero h, hseq]
  · next h =>
    rw [Triangle.timerClock_of_timer_ne_zero h, ← toNat_pred _ h, BitVec.ofNat_toNat, BitVec.setWidth_eq]

/-- Settles O29: a CYCLE clocks the Triangle timer in every state; `Triangle.timerClock_eq_ofNat` says what that does. -/
theorem cycleClocksTriangle : Obligations.CycleClocksTriangle := by
  unfold Obligations.CycleClocksTriangle
  intro s
  exact ⟨_, exec_eq_after .cycle s, (cycleState_t s).trans (s.t.timerClock_eq_ofNat s.cfg.triUltrasonic)⟩

/-! ### Any unit behind a divider, over many clocks -/

/-- `run j c` is the unit after its divider has fired `j` times and with the divider at `c`; a clock counts down to 0,
then fires and reloads `p` (40_common_units.md R80). -/
structure DividerRun {υ : Type} (clock : υ → υ) (p : Nat) (run : Nat → Nat → υ) : Prop where
  /-- Above 0. -/
  countsDown : ∀ j c, c < p → clock (run j (c + 1)) = run j c
  /-- At 0. -/
  fires : ∀ j, clock (run j 0) = run (j + 1) p

section
variable {υ : Type} {clock : υ → υ} {p : Nat} {run : Nat → Nat → υ} (h : DividerRun clock p run)
include h

/-- Up to 0 a divider only counts down. -/
theorem DividerRun.iterate_countdown (j c : Nat) {m : Nat} (hm : c + m ≤ p) : clock^[m] (run j (c + m)) = run j c := by
  induction m with
  | zero => rfl
  | succ m ih => rw [Function.iterate_succ_apply, ← Nat.add_assoc, h.countsDown j (c + m) (by omega), ih (by omega)]

/-- A divider in range is back at its value after `p + 1` clocks and has fired once: it counts down to 0, reloads, and
counts down from `p` (40_common_units.md R80). -/
theorem DividerRun.iterate_period (j : Nat) {c : Nat} (hc : c ≤ p) : clock^[p + 1] (run j c) = run (j + 1) c := by
  have htoZero : clock^[c] (run j c) = run j 0 := by
    simpa using h.iterate_countdown j 0 (m := c) (by omega)
  have hback : clock^[p - c] (run (j + 1) p) = run (j + 1) c := by
    simpa [Nat.add_sub_cancel' hc] using h.iterate_countdown (j + 1) c (m := p - c) (by omega)
  rw [show p + 1 = p - c + (c + 1) by omega, Function.iterate_add_apply, Function.iterate_succ_apply', htoZero, h.fires,
    hback]

/-- `k` periods of a divider in range are `k` fires. -/
theorem DividerRun.iterate_periods {c : Nat} (hc : c ≤ p) (k : Nat) : clock^[k * (p + 1)] (run 0 c) = run k c := by
  induction k with
  | zero => simp
  | succ k ih => rw [Nat.succ_mul, Nat.add_comm, Function.iterate_add_apply, ih, h.iterate_period k hc]

end

/-! ### The waveform over CYCLEs -/

/-- The generator after `j` steps of the sequencer, with the timer at `c`. -/
def Triangle.runTo (t : Triangle) (j c : Nat) : Triangle :=
  { t with timer := BitVec.ofNat 11 c, seq := t.seq + BitVec.ofNat 5 j }

/-- With the timer where it stands, `Triangle.runTo` changes the sequencer alone. -/
theorem Triangle.runTo_timer (t : Triangle) (j : Nat) :
    t.runTo j t.timer.toNat = { t with seq := t.seq + BitVec.ofNat 5 j } := by
  simp [Triangle.runTo]

/-- An ungated Triangle is a sequencer behind a divider that reloads `T.period` (42_triangle.md R142). -/
theorem Triangle.Ungated.dividerRun {mode : TriUltrasonic} {t : Triangle} (h : t.Ungated mode) :
    DividerRun (Triangle.timerClock mode) t.period.toNat t.runTo where
  countsDown j c hc := by
    have hpos : BitVec.ofNat 11 (c + 1) ≠ 0 := by bv_omega
    have hpred : BitVec.ofNat 11 (c + 1) - 1#11 = BitVec.ofNat 11 c := by bv_omega
    rw [Triangle.timerClock_of_timer_ne_zero (t := t.runTo j (c + 1)) hpos]
    simp only [Triangle.runTo, hpred]
  fires j := by
    have hgates : (t.runTo j 0).Ungated mode := h
    rw [Triangle.timerClock_of_timer_zero (t := t.runTo j 0) rfl, if_pos hgates]
    simp [Triangle.runTo, BitVec.ofNat_add, BitVec.add_assoc]

/-- `k` periods of a timer in range are `k` steps of an ungated sequencer (42_triangle.md R142). -/
theorem Triangle.Ungated.timerClock_iterate_periods {mode : TriUltrasonic} {t : Triangle} (h : t.Ungated mode)
    (htimer : t.timer.toNat ≤ t.period.toNat) (k : Nat) :
    (Triangle.timerClock mode)^[k * (t.period.toNat + 1)] t = { t with seq := t.seq + BitVec.ofNat 5 k } := by
  have hrun := h.dividerRun.iterate_periods htimer k
  have hstart : t.runTo 0 t.timer.toNat = t := by simp [Triangle.runTo_timer]
  rwa [hstart, Triangle.runTo_timer] at hrun

/-- The Triangle over `m` CYCLEs is its timer clock iterated (45_status_and_clocking.md R214). -/
theorem triangle_afterMany_cycle (m : Nat) (s : State) :
    (afterMany .cycle m s).t = (Triangle.timerClock s.cfg.triUltrasonic)^[m] s.t :=
  afterMany_eq_iterate (i := .cycle) (regs := (·.cfg.triUltrasonic)) (unit := (·.t)) (fun s => by simp) cycleState_t m s

/-- Settles O42: every period is one step of the sequencer, and 32 steps are its whole round. -/
theorem trianglePeriodInCpuCycles : Obligations.TrianglePeriodInCpuCycles := by
  unfold Obligations.TrianglePeriodInCpuCycles
  intro k s hlin hlen hperiod htimer
  have hungated : s.t.Ungated s.cfg.triUltrasonic := ⟨hlin, hlen, hperiod⟩
  have hsteps : ∀ j, (afterMany .cycle (j * (s.t.period.toNat + 1)) s).t =
      { s.t with seq := s.t.seq + BitVec.ofNat 5 j } := fun j => by
    rw [triangle_afterMany_cycle, hungated.timerClock_iterate_periods htimer]
  have hround : s.t.seq + BitVec.ofNat 5 32 = s.t.seq := BitVec.add_zero _
  exact ⟨hsteps k, (hsteps 32).trans (by rw [hround])⟩

/-! ### The linear counter over QFs -/

/-- A QF with the reload flag set loads the linear counter; `T.ctrl` keeps the flag (42_triangle.md R144). -/
theorem Triangle.linearClock_of_linReload {t : Triangle} (h : t.linReload = true) :
    t.linearClock = { t with lin := t.linLoad, linReload := t.ctrl } := by
  cases hctrl : t.ctrl <;> simp [Triangle.linearClock, h, hctrl]

/-- A QF with the reload flag clear counts the linear counter down to 0 (42_triangle.md R144). -/
theorem Triangle.linearClock_of_not_linReload {t : Triangle} (h : t.linReload = false) :
    t.linearClock = { t with lin := BitVec.ofNat 7 (t.lin.toNat - 1) } := by
  have hlin : (if t.lin ≠ 0#7 then t.lin - 1#7 else t.lin) = BitVec.ofNat 7 (t.lin.toNat - 1) := by
    split <;> bv_omega
  simp [Triangle.linearClock, h, ← hlin]

/-- `k` QFs with the reload flag clear (42_triangle.md R144). -/
theorem Triangle.linearClock_iterate_of_not_linReload {t : Triangle} (h : t.linReload = false) (k : Nat) :
    Triangle.linearClock^[k] t = { t with lin := BitVec.ofNat 7 (t.lin.toNat - k) } := by
  induction k with
  | zero => simp
  | succ k ih =>
    have hlin : (BitVec.ofNat 7 (t.lin.toNat - k)).toNat = t.lin.toNat - k := by bv_omega
    have hclock := Triangle.linearClock_of_not_linReload (t := { t with lin := BitVec.ofNat 7 (t.lin.toNat - k) }) h
    rw [Function.iterate_succ_apply', ih, hclock, hlin, Nat.sub_sub]

/-- The linear counter `k` QFs after the one that loads it: with `T.ctrl` every QF loads it again, else it counts
down (42_triangle.md R144). -/
theorem Triangle.linearClock_iterate_of_linReload {t : Triangle} (h : t.linReload = true) (k : Nat) :
    Triangle.linearClock^[k + 1] t = { t with
      lin := if t.ctrl then t.linLoad else BitVec.ofNat 7 (t.linLoad.toNat - k), linReload := t.ctrl } := by
  rw [Function.iterate_succ_apply, Triangle.linearClock_of_linReload h]
  cases hctrl : t.ctrl with
  | false => exact Triangle.linearClock_iterate_of_not_linReload rfl k
  | true => exact Function.iterate_fixed (Triangle.linearClock_of_linReload rfl) k

/-- Settles O41: the Triangle over QFs is its linear-counter clock iterated. -/
theorem linearCounterAfterManyQuarterFrames : Obligations.LinearCounterAfterManyQuarterFrames := by
  unfold Obligations.LinearCounterAfterManyQuarterFrames
  intro k s hreload
  have ht : (afterMany .qf (k + 1) s).t = Triangle.linearClock^[k + 1] s.t :=
    afterMany_eq_iterate (regs := fun _ => ()) (clock := fun _ => Triangle.linearClock) (unit := (·.t)) (fun _ => rfl)
      (fun _ => rfl) (k + 1) s
  have hcount : (BitVec.ofNat 7 (s.t.linLoad.toNat - k)).toNat = s.t.linLoad.toNat - k := by bv_omega
  rw [ht, Triangle.linearClock_iterate_of_linReload hreload, apply_ite BitVec.toNat, hcount]
  exact ⟨rfl, rfl⟩

end Sys2Proof.Machine
end

section
/-! The Noise generator (43_noise.md): what the writes of its registers set, the raw outputs, and its timer over CYCLEs.
The timer is a divider that reloads NOISE_PERIOD / 2 - 1 APU cycles, so the LFSR behind it is clocked once every
NOISE_PERIOD CPU cycles (`DividerRun.iterate_periods`). -/

namespace Sys2Proof.Machine

open Sys2Proof.Safety

/-! ### Register writes -/

/-- An envelope write by arithmetic (10_state.md R28). -/
theorem Noise.writeCtrl_eq (d : Byte) (n : Noise) :
    n.writeCtrl d = { n with halt := bit d 5, constVol := bit d 4, vol := BitVec.ofNat 4 (bits d 0 4) } := by
  simp only [Noise.writeCtrl, fieldOf_eq_bits, bitOf_eq_bit]

/-- A mode/period write by arithmetic (10_state.md R29). -/
theorem Noise.writePeriod_eq (d : Byte) (n : Noise) :
    n.writePeriod d = { n with mode := bit d 7, periodIdx := BitVec.ofNat 4 (bits d 0 4) } := by
  simp only [Noise.writePeriod, fieldOf_eq_bits, bitOf_eq_bit]

/-- A length write by arithmetic (10_state.md R30). -/
theorem Noise.writeLength_eq (enabled : Bool) (d : Byte) (n : Noise) :
    n.writeLength enabled d = { n with
      len := if enabled then loadedLength d else n.len, env := { n.env with start := true } } := by
  simp only [Noise.writeLength, lengthLoad, lengthOf_lengthIndex]

/-- Settles O15: the three writes by arithmetic, the length load under the Noise enable flag. -/
theorem noiseWrites : Obligations.NoiseWrites := by
  unfold Obligations.NoiseWrites
  intro d s
  simp only [← Noise.writeCtrl_eq, ← Noise.writePeriod_eq, ← Noise.writeLength_eq]
  exact ⟨exec_eq_after (.wrNoiseCtrl d) s, exec_eq_after (.wrNoisePeriod d) s, exec_eq_after (.wrNoiseLen d) s⟩

/-! ### The raw outputs -/

/-- The volume as a number (40_common_units.md R88). -/
theorem Noise.volume_toNat (n : Noise) :
    n.volume.toNat = if n.constVol then n.vol.toNat else n.env.decay.toNat := by
  rw [Noise.volume, envelopeVolume, apply_ite BitVec.toNat]

/-- Bit 0 is clear exactly in an even value. -/
theorem getLsbD_zero_eq_false_iff {w : Nat} (v : BitVec w) : v.getLsbD 0 = false ↔ v.toNat % 2 = 0 := by
  simp [BitVec.getLsbD, Nat.testBit_zero]

/-- `raw.N` by arithmetic (43_noise.md R164). -/
theorem Noise.raw_eq (n : Noise) :
    n.raw =
      if n.len ≠ 0 ∧ n.lfsr.toNat % 2 = 0 then (if n.constVol then n.vol.toNat else n.env.decay.toNat) else 0 := by
  simp only [Noise.raw, Noise.volume_toNat, getLsbD_zero_eq_false_iff, BitVec.ofNat_eq_ofNat]

/-- Settles O24: `Noise.raw_eq`; the DMC's level and the Triangle's table are read as the model has them. -/
theorem noiseTriangleDmcRawOutputs : Obligations.NoiseTriangleDmcRawOutputs := by
  unfold Obligations.NoiseTriangleDmcRawOutputs
  intro s
  refine ⟨s.n.raw_eq, rfl, ?_⟩
  unfold rawT Triangle.raw
  cases s.cfg.triOrder <;> rfl

/-! ### The timer of one CYCLE -/

/-- An LFSR clock by arithmetic (43_noise.md R163). -/
theorem lfsrNext_eq_ofNat (m : Bool) (v : BitVec 15) :
    lfsrNext m v =
      BitVec.ofNat 15 (v.toNat / 2 + 16384 * ((v.toNat + v.toNat / (if m then 64 else 2)) % 2)) := by
  rw [← lfsrNext_toNat, BitVec.ofNat_toNat, BitVec.setWidth_eq]

/-- A timer clock at 0 reloads the timer and clocks the LFSR (43_noise.md R162). -/
theorem Noise.timerClock_of_timer_zero {n : Noise} (h : n.timer = 0) (r : Region) :
    n.timerClock r = { n with timer := noiseReload r n.periodIdx, lfsr := lfsrNext n.mode n.lfsr } := by
  simp [Noise.timerClock, h]

/-- A timer clock above 0 only counts down (43_noise.md R162). -/
theorem Noise.timerClock_of_timer_ne_zero {n : Noise} (h : n.timer ≠ 0) (r : Region) :
    n.timerClock r = { n with timer := n.timer - 1#11 } := by
  simp [Noise.timerClock, clockDivider_pos _ _ h]

/-- A timer clock above 0 by arithmetic (43_noise.md R162). -/
theorem Noise.timerClock_of_timer_ne_zero_eq_ofNat {n : Noise} (h : n.timer ≠ 0) (r : Region) :
    n.timerClock r = { n with timer := BitVec.ofNat 11 (n.timer.toNat - 1) } := by
  rw [Noise.timerClock_of_timer_ne_zero h, ← toNat_pred _ h, BitVec.ofNat_toNat, BitVec.setWidth_eq]

/-- Settles O30: an APU cycle clocks the Noise timer; at 0 it reloads and clocks the LFSR, above 0 it counts down. The
table of the statement is `noisePeriodTable` by unfolding. -/
theorem cycleClocksNoise : Obligations.CycleClocksNoise := by
  unfold Obligations.CycleClocksNoise
  intro s
  simp only [← lfsrNext_eq_ofNat]
  refine ⟨_, exec_eq_after .cycle s, fun heven => ?_, fun hodd => ?_⟩
  · simp [heven]
  · rw [after_cycle, cycleState_n, if_pos hodd]
    split
    · next h => exact Noise.timerClock_of_timer_zero h _
    · next h => exact Noise.timerClock_of_timer_ne_zero_eq_ofNat h _

/-! ### The LFSR over CYCLEs -/

/-- The generator after `j` clocks of the LFSR, with the timer at `c`. -/
def Noise.runTo (n : Noise) (j c : Nat) : Noise :=
  { n with timer := BitVec.ofNat 11 c, lfsr := (lfsrNext n.mode)^[j] n.lfsr }

/-- With the timer where it stands, `Noise.runTo` changes the LFSR alone. -/
theorem Noise.runTo_timer (n : Noise) (j : Nat) :
    n.runTo j n.timer.toNat = { n with lfsr := (lfsrNext n.mode)^[j] n.lfsr } := by
  simp [Noise.runTo]

/-- The generator is an LFSR behind a divider that reloads NOISE_PERIOD / 2 - 1 (43_noise.md R162). -/
theorem Noise.dividerRun (r : Region) (n : Noise) :
    DividerRun (Noise.timerClock r) (noisePeriod r n.periodIdx / 2 - 1) n.runTo where
  countsDown j c hc := by
    obtain ⟨-, -, hmax⟩ := noisePeriod_even r n.periodIdx
    have hpos : BitVec.ofNat 11 (c + 1) ≠ 0 := by bv_omega
    have hpred : BitVec.ofNat 11 (c + 1) - 1#11 = BitVec.ofNat 11 c := by bv_omega
    rw [Noise.timerClock_of_timer_ne_zero (n := n.runTo j (c + 1)) hpos]
    simp only [Noise.runTo, hpred]
  fires j := by
    rw [Noise.timerClock_of_timer_zero (n := n.runTo j 0) rfl]
    simp only [Noise.runTo, noiseReload, Function.iterate_succ_apply']

/-- Two CYCLEs are one APU cycle for the Noise generator, whichever phase they begin in (45_status_and_clocking.md
R214). -/
theorem noise_afterMany_cycle (m : Nat) (s : State) :
    (afterMany .cycle (2 * m) s).n = (Noise.timerClock s.cfg.region)^[m] s.n := by
  induction m generalizing s with
  | zero => rfl
  | succ m ih =>
    have hpair : (cycleState (cycleState s)).n = s.n.timerClock s.cfg.region := by
      cases h : s.apuOdd <;> simp [h]
    calc (afterMany .cycle (2 * m) (cycleState (cycleState s))).n
        = (Noise.timerClock s.cfg.region)^[m] (cycleState (cycleState s)).n := by
          rw [ih, cycleState_cfg, cycleState_cfg]
      _ = (Noise.timerClock s.cfg.region)^[m + 1] s.n := by rw [hpair, Function.iterate_succ_apply]

/-- Settles O44: NOISE_PERIOD CYCLEs are NOISE_PERIOD / 2 APU cycles, one period of the divider. -/
theorem noiseClockedOncePerPeriod : Obligations.NoiseClockedOncePerPeriod := by
  unfold Obligations.NoiseClockedOncePerPeriod
  intro k s htimer
  obtain ⟨heven, hmin, -⟩ := noisePeriod_even s.cfg.region s.n.periodIdx
  have hcycles : k * noisePeriod s.cfg.region s.n.periodIdx =
      2 * (k * (noisePeriod s.cfg.region s.n.periodIdx / 2 - 1 + 1)) := by
    rw [Nat.mul_left_comm]; congr 1; omega
  have hrun := (s.n.dividerRun s.cfg.region).iterate_periods (c := s.n.timer.toNat) (by omega) k
  have hstart : s.n.runTo 0 s.n.timer.toNat = s.n := by simp [Noise.runTo_timer]
  rw [hcycles, noise_afterMany_cycle, ← Noise.runTo_timer, ← hrun, hstart]

end Sys2Proof.Machine
end

section
/-! The LFSR as a linear recurrence over the field of two elements (43_noise.md R163). A clock is linear in `^^^`, and
fifteen clocks are `lfsrTap` clocks plus the identity (`lfsrNext_iterate_fifteen`). Squaring that identity, which over
two elements squares each term alone, gives it for `15 * 2 ^ k` clocks (`lfsrNext_iterate_add`), and both periods follow
from these identities. In mode 0 the clocks `2 ^ k` obey `x (k + 4) = x (k + 1) ^^^ x k`, because 15 = 16 - 1; that
recurrence has period 15, so `2 ^ 15` clocks are one clock. In mode 1 three of the identities bring 93 clocks back to
none. -/

namespace Sys2Proof.Machine

/-! ### Sums in `^^^` -/

/-- Sums commute. -/
theorem xor_left_comm {w : Nat} (a b c : BitVec w) : a ^^^ (b ^^^ c) = b ^^^ (a ^^^ c) := by ac_rfl

/-- A term twice is no term. -/
theorem xor_xor_cancel_left {w : Nat} (a b : BitVec w) : a ^^^ (a ^^^ b) = b := by
  rw [← BitVec.xor_assoc, BitVec.xor_self, BitVec.zero_xor]

/-! ### A clock is linear and injective -/

/-- The bit that the feedback adds to bit 0 (43_noise.md R163). -/
def lfsrTap (m : Bool) : Nat := if m then 6 else 1

/-- Below bit 14 a clock shifts right (43_noise.md R163). -/
theorem lfsrNext_getLsbD_of_lt (m : Bool) (v : BitVec 15) {i : Nat} (h : i < 14) :
    (lfsrNext m v).getLsbD i = v.getLsbD (i + 1) := by
  rw [lfsrNext, BitVec.getLsbD_append (n := 1) (m := 14), if_pos h]
  simp [h, Nat.add_comm]

/-- The feedback enters bit 14 (43_noise.md R163). -/
theorem lfsrNext_getLsbD_fourteen (m : Bool) (v : BitVec 15) :
    (lfsrNext m v).getLsbD 14 = (v.getLsbD 0 ^^ v.getLsbD (lfsrTap m)) := by
  rw [lfsrNext, BitVec.getLsbD_append (n := 1) (m := 14), if_neg (by decide)]
  cases m <;> simp [lfsrTap]

/-- A clock is linear (43_noise.md R163). -/
theorem lfsrNext_xor (m : Bool) (u v : BitVec 15) : lfsrNext m (u ^^^ v) = lfsrNext m u ^^^ lfsrNext m v := by
  apply BitVec.eq_of_getLsbD_eq
  intro i hi
  rw [BitVec.getLsbD_xor]
  rcases (Nat.lt_succ_iff_lt_or_eq.mp hi) with hlow | rfl
  · simp only [lfsrNext_getLsbD_of_lt m _ hlow, BitVec.getLsbD_xor]
  · simp only [lfsrNext_getLsbD_fourteen, BitVec.getLsbD_xor, Bool.xor_assoc, Bool.xor_left_comm]

/-- Any number of clocks is linear. -/
theorem lfsrNext_iterate_xor (m : Bool) (k : Nat) (u v : BitVec 15) :
    (lfsrNext m)^[k] (u ^^^ v) = (lfsrNext m)^[k] u ^^^ (lfsrNext m)^[k] v :=
  Function.Semiconj₂.iterate (lfsrNext_xor m) k u v

/-- A clock is injective: it is linear, and gives 0 from 0 alone. -/
theorem lfsrNext_injective (m : Bool) : Function.Injective (lfsrNext m) := by
  intro u v huv
  by_contra hne
  refine lfsrNext_ne_zero m (u ^^^ v) (fun h => hne (BitVec.xor_eq_zero_iff.mp h)) ?_
  rw [lfsrNext_xor, huv, BitVec.xor_self]

/-! ### The recurrence -/

/-- Bit `i` is the bit that is shifted out `i` clocks later. -/
theorem getLsbD_eq_iterate_getLsbD_zero (m : Bool) (v : BitVec 15) {i : Nat} (h : i < 15) :
    v.getLsbD i = ((lfsrNext m)^[i] v).getLsbD 0 := by
  induction i generalizing v with
  | zero => rfl
  | succ i ih =>
    rw [Function.iterate_succ_apply, ← ih _ (by omega), lfsrNext_getLsbD_of_lt m v (by omega)]

/-- The bits shifted out obey the recurrence of the feedback (43_noise.md R163). -/
theorem iterate_fifteen_getLsbD_zero (m : Bool) (v : BitVec 15) :
    ((lfsrNext m)^[15] v).getLsbD 0 = (((lfsrNext m)^[lfsrTap m] v).getLsbD 0 ^^ v.getLsbD 0) := by
  have htap : lfsrTap m < 15 := by cases m <;> decide
  rw [Function.iterate_succ_apply, ← getLsbD_eq_iterate_getLsbD_zero m _ (by decide), lfsrNext_getLsbD_fourteen,
    ← getLsbD_eq_iterate_getLsbD_zero m v htap, Bool.xor_comm]

/-- Fifteen clocks are `lfsrTap` clocks plus the identity: the characteristic polynomial of the register. -/
theorem lfsrNext_iterate_fifteen (m : Bool) (v : BitVec 15) :
    (lfsrNext m)^[15] v = (lfsrNext m)^[lfsrTap m] v ^^^ v := by
  apply BitVec.eq_of_getLsbD_eq
  intro i hi
  have hshift : ∀ k, ((lfsrNext m)^[k] v).getLsbD i = ((lfsrNext m)^[k] ((lfsrNext m)^[i] v)).getLsbD 0 := fun k => by
    rw [getLsbD_eq_iterate_getLsbD_zero m _ hi, ← Function.iterate_add_apply, ← Function.iterate_add_apply,
      Nat.add_comm]
  rw [BitVec.getLsbD_xor, hshift, hshift, getLsbD_eq_iterate_getLsbD_zero m v hi, iterate_fifteen_getLsbD_zero]

/-- The characteristic polynomial squared `k` times, each term alone. -/
theorem lfsrNext_iterate_fifteen_mul_two_pow (m : Bool) (k : Nat) (v : BitVec 15) :
    (lfsrNext m)^[15 * 2 ^ k] v = (lfsrNext m)^[lfsrTap m * 2 ^ k] v ^^^ v := by
  induction k generalizing v with
  | zero => simpa using lfsrNext_iterate_fifteen m v
  | succ k ih =>
    have hdouble : ∀ a, (lfsrNext m)^[a * 2 ^ (k + 1)] v = (lfsrNext m)^[a * 2 ^ k] ((lfsrNext m)^[a * 2 ^ k] v) :=
      fun a => by rw [← Function.iterate_add_apply, pow_succ, ← mul_assoc, mul_two]
    rw [hdouble, hdouble, ih, ih, lfsrNext_iterate_xor, BitVec.xor_assoc, xor_xor_cancel_left]

/-- The squared recurrence along the clocks of a value. -/
theorem lfsrNext_iterate_add (m : Bool) (j k : Nat) (v : BitVec 15) :
    (lfsrNext m)^[j + 15 * 2 ^ k] v = (lfsrNext m)^[j + lfsrTap m * 2 ^ k] v ^^^ (lfsrNext m)^[j] v := by
  rw [Function.iterate_add_apply, lfsrNext_iterate_fifteen_mul_two_pow, lfsrNext_iterate_xor,
    ← Function.iterate_add_apply]

/-! ### Least periods -/

/-- A period that is a product of primes is the least one if no cofactor of one of them is a period. -/
theorem minimalPeriod_eq_of_cofactors {α : Type} {f : α → α} {x : α} {n : Nat} {l : List Nat} (hprod : l.prod = n)
    (hprime : ∀ q ∈ l, q.Prime) (hper : Function.IsPeriodicPt f n x)
    (hcofactor : ∀ q ∈ l, ¬ Function.IsPeriodicPt f (n / q) x) : Function.minimalPeriod f x = n := by
  obtain ⟨a, ha⟩ := hper.minimalPeriod_dvd
  by_contra hne
  have hone : a ≠ 1 := by rintro rfl; exact hne (by rw [ha, mul_one])
  have hdvd : a.minFac ∣ l.prod := hprod ▸ (Nat.minFac_dvd a).trans (Dvd.intro_left _ ha.symm)
  have hmem := mem_list_primes_of_dvd_prod (Nat.minFac_prime hone).prime (fun q hq => (hprime q hq).prime) hdvd
  refine hcofactor _ hmem ?_
  rw [Function.isPeriodicPt_iff_minimalPeriod_dvd, ha, Nat.mul_div_assoc _ (Nat.minFac_dvd a)]
  exact dvd_mul_right ..

/-- No number of clocks gives 0 from a value that is not 0. -/
theorem lfsrNext_iterate_ne_zero (m : Bool) {v : BitVec 15} (hv : v ≠ 0) (k : Nat) : (lfsrNext m)^[k] v ≠ 0 := by
  induction k with
  | zero => exact hv
  | succ k ih => rw [Function.iterate_succ_apply']; exact lfsrNext_ne_zero m _ ih

/-- A value whose least period is the number of non-zero values runs through all of them (43_noise.md R163). -/
theorem exists_iterate_of_minimalPeriod {m : Bool} {v : BitVec 15} (hv : v ≠ 0)
    (hper : Function.minimalPeriod (lfsrNext m) v = 32767) {u : BitVec 15} (hu : u ≠ 0) :
    ∃ k, k < 32767 ∧ (lfsrNext m)^[k] v = u := by
  have hcard : (Finset.univ.erase (0 : BitVec 15)).card ≤ (Finset.range 32767).card := by
    rw [Finset.card_erase_of_mem (Finset.mem_univ _), Finset.card_univ, ← FinEnum.card_eq_fintypeCard,
      FinEnum.card_bitVec, Finset.card_range]
    exact Nat.le_refl 32767
  have hinj : Set.InjOn (fun k => (lfsrNext m)^[k] v) (Finset.range 32767) := by
    rw [Finset.coe_range, ← hper]
    exact Function.iterate_injOn_Iio_minimalPeriod
  have hmaps : Set.MapsTo (fun k => (lfsrNext m)^[k] v) (Finset.range 32767) (Finset.univ.erase (0 : BitVec 15)) :=
    fun k _ => Finset.mem_erase.mpr ⟨lfsrNext_iterate_ne_zero m hv k, Finset.mem_univ _⟩
  obtain ⟨k, hk, hku⟩ := Finset.surjOn_of_injOn_of_card_le _ hmaps hinj hcard
    (Finset.mem_erase.mpr ⟨hu, Finset.mem_univ u⟩)
  exact ⟨k, Finset.mem_range.mp hk, hku⟩

/-! ### Mode 0 -/

/-- The value after `2 ^ k` clocks in mode 0 (`leap_eq_iterate`), in few enough steps to evaluate. -/
def leap : Nat → BitVec 15 → BitVec 15
  | 0, v => lfsrNext false v
  | 1, v => (lfsrNext false)^[2] v
  | 2, v => (lfsrNext false)^[4] v
  | 3, v => (lfsrNext false)^[8] v
  | k + 4, v => leap (k + 1) v ^^^ leap k v

/-- The recurrence of `leap`. -/
theorem leap_add_four (k : Nat) (v : BitVec 15) : leap (k + 4) v = leap (k + 1) v ^^^ leap k v := rfl

/-- `leap k` is `2 ^ k` clocks: `16 * 2 ^ k` clocks are `2 ^ k` after `15 * 2 ^ k`. -/
theorem leap_eq_iterate : ∀ (k : Nat) (v : BitVec 15), leap k v = (lfsrNext false)^[2 ^ k] v
  | 0, _ | 1, _ | 2, _ | 3, _ => rfl
  | k + 4, v => by
    have hsplit : 2 ^ (k + 4) = 2 ^ k + 15 * 2 ^ k := by rw [pow_add]; omega
    have hnext : 2 ^ (k + 1) = 2 ^ k + lfsrTap false * 2 ^ k := by rw [lfsrTap, pow_succ]; simp [mul_two]
    rw [leap_add_four, leap_eq_iterate, leap_eq_iterate, hsplit, hnext, lfsrNext_iterate_add]

/-- The recurrence of `leap` has period 15: it takes `leap 15` down to the first four, where all but `leap 0`
cancels. -/
theorem leap_fifteen (v : BitVec 15) : leap 15 v = leap 0 v := by
  have hsquare : ∀ k, leap (k + 8) v = leap (k + 2) v ^^^ leap k v := fun k => by
    rw [leap_add_four (k + 4), leap_add_four k, leap_add_four (k + 1), BitVec.xor_assoc, xor_xor_cancel_left]
  calc leap 15 v
      = (leap 3 v ^^^ leap 1 v) ^^^ ((leap 1 v ^^^ leap 0 v) ^^^ leap 3 v) := by
        rw [hsquare 7, hsquare 1, leap_add_four 3, leap_add_four 0]
    _ = leap 0 v := by simp [BitVec.xor_assoc, BitVec.xor_comm]

/-- Every value is back after 32767 clocks: `2 ^ 15` clocks are one, and a clock is injective (43_noise.md R163). -/
theorem lfsrNext_false_isPeriodicPt (v : BitVec 15) : Function.IsPeriodicPt (lfsrNext false) 32767 v := by
  have hleap : (lfsrNext false)^[32768] v = lfsrNext false v := by
    rw [show 32768 = 2 ^ 15 from rfl, ← leap_eq_iterate, leap_fifteen, leap]
  exact lfsrNext_injective false ((Function.iterate_succ_apply' ..).symm.trans hleap)

/-- From 1 no proper divisor of 32767 = 7 * 31 * 151 is a period: `leap` runs the clocks of each cofactor by its binary
digits (43_noise.md R163). -/
theorem lfsrNext_false_minimalPeriod_one : Function.minimalPeriod (lfsrNext false) 1 = 32767 := by
  have hseven : leap 12 (leap 9 (leap 6 (leap 3 (leap 0 1)))) ≠ 1 := by simp [leap, lfsrNext]
  have hthirtyOne : leap 10 (leap 5 (leap 0 1)) ≠ 1 := by simp [leap, lfsrNext]
  have honeFiftyOne : leap 7 (leap 6 (leap 4 (leap 3 (leap 0 1)))) ≠ 1 := by simp [leap, lfsrNext]
  simp only [leap_eq_iterate, ← Function.iterate_add_apply] at hseven hthirtyOne honeFiftyOne
  refine minimalPeriod_eq_of_cofactors (l := [7, 31, 151]) rfl (by norm_num) (lfsrNext_false_isPeriodicPt 1) ?_
  simp only [List.forall_mem_cons]
  exact ⟨hseven, hthirtyOne, honeFiftyOne, List.forall_mem_nil _⟩

/-- Every non-zero value is on the cycle of 1, so it has the same least period (43_noise.md R163). -/
theorem lfsrNext_false_minimalPeriod {v : BitVec 15} (hv : v ≠ 0) :
    Function.minimalPeriod (lfsrNext false) v = 32767 := by
  obtain ⟨k, -, rfl⟩ := exists_iterate_of_minimalPeriod (by decide) lfsrNext_false_minimalPeriod_one hv
  rw [Function.minimalPeriod_apply_iterate ⟨32767, by decide, lfsrNext_false_isPeriodicPt 1⟩,
    lfsrNext_false_minimalPeriod_one]

/-- Settles O45: the least period of a non-zero value is the number of non-zero values. -/
theorem lfsrModeZeroHasMaximalPeriod : Obligations.LfsrModeZeroHasMaximalPeriod := by
  unfold Obligations.LfsrModeZeroHasMaximalPeriod
  intro v hv
  have hper := lfsrNext_false_minimalPeriod hv
  exact ⟨lfsrNext_false_isPeriodicPt v,
    fun k hpos hlt => Function.not_isPeriodicPt_of_pos_of_lt_minimalPeriod hpos.ne' (by rwa [hper]),
    fun u hu => exists_iterate_of_minimalPeriod hv hper hu⟩

/-! ### Mode 1 -/

/-- Every value is back after 93 clocks: the recurrence, squared none, one and two times, takes 93 clocks down to fewer
than 15, where all terms but the value itself cancel (43_noise.md R163). -/
theorem lfsrNext_true_isPeriodicPt (v : BitVec 15) : Function.IsPeriodicPt (lfsrNext true) 93 v := by
  have hfifteen : ∀ j, (lfsrNext true)^[j + 15] v = (lfsrNext true)^[j + 6] v ^^^ (lfsrNext true)^[j] v :=
    fun j => lfsrNext_iterate_add true j 0 v
  have hthirty : ∀ j, (lfsrNext true)^[j + 30] v = (lfsrNext true)^[j + 12] v ^^^ (lfsrNext true)^[j] v :=
    fun j => lfsrNext_iterate_add true j 1 v
  have hsixty : ∀ j, (lfsrNext true)^[j + 60] v = (lfsrNext true)^[j + 24] v ^^^ (lfsrNext true)^[j] v :=
    fun j => lfsrNext_iterate_add true j 2 v
  calc (lfsrNext true)^[93] v
      = (lfsrNext true)^[57] v ^^^ (lfsrNext true)^[33] v := hsixty 33
    _ = v := by
      rw [hthirty 27, hthirty 9, hthirty 3, hfifteen 6, hfifteen 12, hfifteen 3, hfifteen 0]
      simp only [Nat.reduceAdd, BitVec.xor_assoc, BitVec.xor_comm, xor_left_comm, BitVec.xor_self,
        BitVec.xor_zero, Function.iterate_zero_apply]

/-- From 1 neither of the proper divisors 3 and 31 of 93 is a period (43_noise.md R163). -/
theorem lfsrNext_true_minimalPeriod_one : Function.minimalPeriod (lfsrNext true) 1 = 93 := by
  have hthree : (lfsrNext true)^[31] 1 ≠ 1 := by simp [lfsrNext]
  have hthirtyOne : (lfsrNext true)^[3] 1 ≠ 1 := by simp [lfsrNext]
  refine minimalPeriod_eq_of_cofactors (l := [3, 31]) rfl (by norm_num) (lfsrNext_true_isPeriodicPt 1) ?_
  simp only [List.forall_mem_cons]
  exact ⟨hthree, hthirtyOne, List.forall_mem_nil _⟩

/-- Settles O46: 93 clocks are the identity, and 93 is the least period of 1. -/
theorem lfsrModeOneRepeatsAfter93 : Obligations.LfsrModeOneRepeatsAfter93 := by
  unfold Obligations.LfsrModeOneRepeatsAfter93
  exact ⟨⟨lfsrNext_true_isPeriodicPt 1, fun k hpos hlt =>
      Function.not_isPeriodicPt_of_pos_of_lt_minimalPeriod hpos.ne' (by rwa [lfsrNext_true_minimalPeriod_one])⟩,
    lfsrNext_true_isPeriodicPt, lfsrNext_ne_zero⟩

end Sys2Proof.Machine
end

section
/-! The DMC (44_dmc.md): what the writes of its registers set, the delta step, and what a CYCLE does to it. A CYCLE is a
timer clock and then the reader. The timer clock counts down, or reloads and is an output clock, given as one update by
arithmetic (`Dmc.outputClock_eq`); a fetch is one update too (`Dmc.fetched_eq`). The timer is a divider that reloads
DMC_RATE - 1, so from 0 it is back at 0 after DMC_RATE CYCLEs (`clockDivider_iterate_from_zero`). -/

namespace Sys2Proof.Machine

open Sys2Proof.Safety

/-! ### Register writes -/

/-- A flags/rate write by arithmetic (10_state.md R31). -/
theorem Dmc.writeCtrl_eq (b : Byte) (d : Dmc) :
    d.writeCtrl b = { d with
      irqEn := bit b 7, loop := bit b 6, rateIdx := BitVec.ofNat 4 (bits b 0 4),
      irq := if bit b 7 then d.irq else false } := by
  simp only [Dmc.writeCtrl, fieldOf_eq_bits, bitOf_eq_bit]

/-- A direct-load write by arithmetic (10_state.md R32). -/
theorem Dmc.writeLoad_eq (b : Byte) (d : Dmc) : d.writeLoad b = { d with level := BitVec.ofNat 7 (b.toNat % 128) } := by
  simp only [Dmc.writeLoad, fieldOf_eq_bits, bits, Nat.pow_zero, Nat.div_one, Nat.reducePow]

/-- Settles O16: the flags/rate and direct-load writes by arithmetic; the other two store the byte. -/
theorem dmcWrites : Obligations.DmcWrites := by
  unfold Obligations.DmcWrites
  intro d s
  simp only [← Dmc.writeCtrl_eq, ← Dmc.writeLoad_eq]
  exact ⟨exec_eq_after (.wrDmcCtrl d) s, exec_eq_after (.wrDmcLoad d) s, exec_eq_after (.wrDmcAddr d) s,
    exec_eq_after (.wrDmcLen d) s⟩

/-! ### The timer and the output unit of one CYCLE -/

/-- A timer clock at 0 reloads the timer and is an output clock (44_dmc.md R183). -/
theorem Dmc.timerClock_of_timer_zero {d : Dmc} (h : d.timer = 0) (r : Region) (l : DmcLimit) :
    d.timerClock r l = { d.outputClock l with timer := dmcReload r d.rateIdx } := by
  simp [Dmc.timerClock, h, Dmc.outputClock_timer]

/-- A timer clock above 0 only counts down (44_dmc.md R183). -/
theorem Dmc.timerClock_of_timer_ne_zero {d : Dmc} (h : d.timer ≠ 0) (r : Region) (l : DmcLimit) :
    d.timerClock r l = { d with timer := BitVec.ofNat 9 (d.timer.toNat - 1) } := by
  rw [← toNat_pred _ h, BitVec.ofNat_toNat, BitVec.setWidth_eq]
  simp [Dmc.timerClock, clockDivider_pos _ _ h]

/-- An output clock as one update by arithmetic: the output cycle ends where the bit counter is 1 (44_dmc.md R184,
R185). -/
theorem Dmc.outputClock_eq (l : DmcLimit) (d : Dmc) :
    d.outputClock l = { d with
      level := d.deltaLevel l
      shift := if d.bitsLeft.toNat = 1 ∧ d.bufEmpty = false then d.buffer else BitVec.ofNat 8 (d.shift.toNat / 2)
      bitsLeft := if d.bitsLeft.toNat = 1 then 8#4 else d.bitsLeft - 1#4
      silence := if d.bitsLeft.toNat = 1 then d.bufEmpty else d.silence
      bufEmpty := if d.bitsLeft.toNat = 1 then true else d.bufEmpty } := by
  have hshift : d.shift >>> 1 = BitVec.ofNat 8 (d.shift.toNat / 2) := by
    apply BitVec.eq_of_toNat_eq
    have := d.shift.isLt
    simp [Nat.shiftRight_eq_div_pow]
    omega
  have hends : d.bitsLeft - 1#4 = 0#4 ↔ d.bitsLeft.toNat = 1 := by bv_omega
  unfold Dmc.outputClock Dmc.shiftClock
  by_cases hb : d.bitsLeft.toNat = 1
  · cases d.bufEmpty <;> simp [hends, hshift, hb]
  · simp [hends, hshift, hb]

/-- The reader of a CYCLE leaves the level, the timer and the rate as the timer clock left them (44_dmc.md
R186-R188). -/
theorem cycleState_d_frame (s : State) :
    (cycleState s).d.level = (dmcBeforeReader s).level ∧ (cycleState s).d.timer = (dmcBeforeReader s).timer ∧
    (cycleState s).d.rateIdx = (dmcBeforeReader s).rateIdx := by
  rw [cycleState_d]
  split
  · obtain ⟨-, -, hrate, -, -, htimer, hlevel, -⟩ :=
      Dmc.fetched_frame (memAnswer (beforeReader s) (dmcBeforeReader s).curAddr) (dmcBeforeReader s)
    exact ⟨hlevel, htimer, hrate⟩
  · exact ⟨rfl, rfl, rfl⟩

/-- The level after a CYCLE: the delta step where the timer is at 0 (44_dmc.md R183, R184). -/
theorem cycleState_d_level (s : State) :
    (cycleState s).d.level = if s.d.timer = 0 then s.d.deltaLevel s.cfg.dmcLimit else s.d.level := by
  obtain ⟨hlevel, -, -⟩ := cycleState_d_frame s
  rw [hlevel, dmcBeforeReader]
  split
  · next h => rw [Dmc.timerClock_of_timer_zero h, Dmc.outputClock_eq]
  · next h => rw [Dmc.timerClock_of_timer_ne_zero h]

/-- A silent output clock leaves the level (44_dmc.md R184). -/
theorem Dmc.deltaLevel_of_silence {d : Dmc} (h : d.silence = true) (l : DmcLimit) : d.deltaLevel l = d.level := by
  rw [Dmc.deltaLevel, if_pos h]

/-- A step up as a number: up to 125 it stays in range (44_dmc.md R184). -/
theorem Dmc.deltaLevel_toNat_of_one {d : Dmc} (hs : d.silence = false) (hbit : d.shift.toNat % 2 = 1) (l : DmcLimit) :
    (d.deltaLevel l).toNat =
      if d.level.toNat ≤ 125 then d.level.toNat + 2 else if l = .saturate then 127 else d.level.toNat := by
  have hup : d.shift.getLsbD 0 = true := by simpa [BitVec.getLsbD, Nat.testBit_zero] using hbit
  have hle : d.level ≤ 125#7 ↔ d.level.toNat ≤ 125 := BitVec.le_def
  simp only [Dmc.deltaLevel, hs, hup, hle, Bool.false_eq_true, if_false, if_true]
  split
  · next h => rw [BitVec.toNat_add]; simp; omega
  · rw [apply_ite BitVec.toNat]; rfl

/-- A step down as a number: from 2 on it stays in range (44_dmc.md R184). -/
theorem Dmc.deltaLevel_toNat_of_zero {d : Dmc} (hs : d.silence = false) (hbit : d.shift.toNat % 2 = 0) (l : DmcLimit) :
    (d.deltaLevel l).toNat =
      if 2 ≤ d.level.toNat then d.level.toNat - 2 else if l = .saturate then 0 else d.level.toNat := by
  have hdown : d.shift.getLsbD 0 = false := (getLsbD_zero_eq_false_iff d.shift).mpr hbit
  have hle : 2#7 ≤ d.level ↔ 2 ≤ d.level.toNat := BitVec.le_def
  simp only [Dmc.deltaLevel, hs, hdown, hle, Bool.false_eq_true, if_false]
  split
  · next h => exact BitVec.toNat_sub_of_le (hle.mpr h)
  · rw [apply_ite BitVec.toNat]; rfl

/-- Settles O31: `cycleState_d_level`, with the delta step by its cases. -/
theorem dmcDeltaStep : Obligations.DmcDeltaStep := by
  unfold Obligations.DmcDeltaStep
  intro s
  refine ⟨_, exec_eq_after .cycle s, ?_⟩
  rw [after_cycle, cycleState_d_level]
  refine ⟨fun hkept => ?_, fun htimer hs hbit => ?_, fun htimer hs hbit => ?_⟩
  · split
    · next htimer => exact Dmc.deltaLevel_of_silence (hkept.resolve_left (not_not_intro htimer)) _
    · rfl
  · rw [if_pos htimer, Dmc.deltaLevel_toNat_of_one hs hbit]
  · rw [if_pos htimer, Dmc.deltaLevel_toNat_of_zero hs hbit]

/-! ### The reader of one CYCLE -/

/-- The address counter by arithmetic (44_dmc.md R187). -/
theorem advanceAddress_eq_ofNat (a : Addr) :
    advanceAddress a = if a.toNat = 0xFFFF then 0x8000 else BitVec.ofNat 16 (a.toNat + 1) := by
  have hend : a = 0xFFFF#16 ↔ a.toNat = 0xFFFF := by bv_omega
  have hnext : a + 1#16 = BitVec.ofNat 16 (a.toNat + 1) := by bv_omega
  simp only [advanceAddress, hend, hnext, BitVec.ofNat_eq_ofNat]

/-- A fetch where bytes remain, as one update by arithmetic: the last byte restarts or raises the IRQ (44_dmc.md R182,
R186-R188). -/
theorem Dmc.fetched_eq {d : Dmc} (h : d.bytesLeft ≠ 0) (b : Byte) :
    d.fetched b = { d with
      buffer := b
      bufEmpty := false
      curAddr :=
        if d.bytesLeft.toNat = 1 ∧ d.loop then BitVec.ofNat 16 (0xC000 + 64 * d.addrReg.toNat)
        else if d.curAddr.toNat = 0xFFFF then 0x8000 else BitVec.ofNat 16 (d.curAddr.toNat + 1)
      bytesLeft :=
        if d.bytesLeft.toNat = 1 ∧ d.loop then BitVec.ofNat 12 (16 * d.lenReg.toNat + 1)
        else BitVec.ofNat 12 (d.bytesLeft.toNat - 1)
      irq := if d.bytesLeft.toNat = 1 ∧ d.loop = false ∧ d.irqEn = true then true else d.irq } := by
  have hlast : d.bytesLeft - 1#12 = 0#12 ↔ d.bytesLeft.toNat = 1 := by bv_omega
  have hpred : BitVec.ofNat 12 (d.bytesLeft.toNat - 1) = d.bytesLeft - 1#12 := by
    rw [← toNat_pred _ h, BitVec.ofNat_toNat, BitVec.setWidth_eq]
  simp only [Dmc.fetched, Dmc.endOfSample, hlast, hpred, ← advanceAddress_eq_ofNat]
  by_cases hb : d.bytesLeft.toNat = 1
  · cases d.loop with
    | false => cases d.irqEn <;> simp [hb]
    | true => simp [hb, Dmc.restart_eq]
  · simp [hb]

/-- The reader fetches where the buffer is empty and bytes remain (44_dmc.md R186). -/
theorem Dmc.wantsFetch_iff (d : Dmc) : d.wantsFetch = true ↔ d.bufEmpty = true ∧ d.bytesLeft ≠ 0 := by
  simp [Dmc.wantsFetch]

/-- A CYCLE whose reader fetches (44_dmc.md R186). -/
theorem cycleState_d_of_wantsFetch {s : State} (h : (dmcBeforeReader s).wantsFetch = true) :
    (cycleState s).d = (dmcBeforeReader s).fetched (memAnswer (beforeReader s) (dmcBeforeReader s).curAddr) := by
  rw [cycleState_d, if_pos h]

/-- A CYCLE whose reader fetches nothing leaves the DMC at its timer clock and takes no draw (44_dmc.md R186). -/
theorem cycleState_of_not_wantsFetch {s : State} (h : ¬ (dmcBeforeReader s).wantsFetch = true) :
    (cycleState s).d = dmcBeforeReader s ∧ (cycleState s).draws = s.draws := by
  have hreader : cycleState s = beforeReader s := by rw [cycleState_eq, dmcReader, beforeReader_d, if_neg h]
  rw [hreader]
  exact ⟨beforeReader_d s, beforeReader_draws s⟩

/-- Settles O32: the DMC between the timer and the reader is `dmcBeforeReader`. -/
theorem cycleClocksDmcThenReadsSample : Obligations.CycleClocksDmcThenReadsSample := by
  unfold Obligations.CycleClocksDmcThenReadsSample
  intro s
  refine ⟨dmcBeforeReader s, _, exec_eq_after .cycle s, fun hpos => Dmc.timerClock_of_timer_ne_zero hpos _ _,
    fun hzero => ?_, fun hidle => ?_, fun hempty hbytes => ?_⟩
  · have hclock := Dmc.timerClock_of_timer_zero hzero s.cfg.region s.cfg.dmcLimit
    rw [Dmc.outputClock_eq] at hclock
    rw [dmcBeforeReader, hclock]
    refine ⟨rfl, fun hlast => ?_, fun hmore => ?_⟩
    · simp [hlast]
    · have hne : s.d.bitsLeft ≠ 0#4 := (ne_zero_iff_toNat_pos _).mpr (by omega)
      have hone : s.d.bitsLeft.toNat ≠ 1 := by omega
      simp only [hone, if_false]
      exact toNat_pred _ hne
  · exact cycleState_of_not_wantsFetch (mt (Dmc.wantsFetch_iff _).mp hidle)
  · have hfetch := cycleState_d_of_wantsFetch ((Dmc.wantsFetch_iff _).mpr ⟨hempty, hbytes⟩)
    rw [Dmc.fetched_eq hbytes] at hfetch
    rw [after_cycle, hfetch]
    exact ⟨fun b hb => memAnswer_listed (beforeReader s) _ b (by rwa [beforeReader_mem]), rfl⟩

/-! ### The timer over CYCLEs -/

/-- A divider by itself is a unit behind a divider (40_common_units.md R80). -/
theorem clockDivider_dividerRun {w : Nat} (p : BitVec w) :
    DividerRun (fun c => (clockDivider c p).1) p.toNat (fun _ c => BitVec.ofNat w c) where
  countsDown j c hc := by
    have hlt : c + 1 < 2 ^ w := by have := p.isLt; omega
    have hpos : BitVec.ofNat w (c + 1) ≠ 0#w := by
      rw [ne_zero_iff_toNat_pos, BitVec.toNat_ofNat, Nat.mod_eq_of_lt hlt]; omega
    rw [clockDivider_pos _ _ hpos, BitVec.ofNat_add]
    simp
  fires j := by simp

/-- From 0 a divider reloads its period and counts down from there (40_common_units.md R80). -/
theorem clockDivider_iterate_from_zero {w : Nat} (p : BitVec w) {k : Nat} (h : k ≤ p.toNat) :
    (fun c => (clockDivider c p).1)^[k + 1] 0#w = BitVec.ofNat w (p.toNat - k) := by
  have hdown := (clockDivider_dividerRun p).iterate_countdown 1 (p.toNat - k) (m := k) (by omega)
  rw [Nat.sub_add_cancel h] at hdown
  rw [Function.iterate_succ_apply, ← hdown]
  exact congrArg _ ((clockDivider_dividerRun p).fires 0)

/-- The reload value as a number (44_dmc.md R183). -/
theorem dmcReload_toNat (r : Region) (i : BitVec 4) : (dmcReload r i).toNat = dmcRate r i - 1 := by
  have := dmcRate_range r i
  rw [dmcReload, BitVec.toNat_ofNat]
  omega

/-- A CYCLE clocks the DMC timer and keeps the rate (44_dmc.md R183). -/
theorem cycleState_d_timer_rateIdx (s : State) :
    (cycleState s).d.timer = (clockDivider s.d.timer (dmcReload s.cfg.region s.d.rateIdx)).1 ∧
    (cycleState s).d.rateIdx = s.d.rateIdx := by
  obtain ⟨-, htimer, hrate⟩ := cycleState_d_frame s
  obtain ⟨-, -, hkept, -, -, -, -, -, -, hclocked⟩ := Dmc.timerClock_frame s.cfg.region s.cfg.dmcLimit s.d
  exact ⟨htimer.trans hclocked, hrate.trans hkept⟩

/-- The DMC timer over `k` CYCLEs is a divider clocked `k` times (45_status_and_clocking.md R214). -/
theorem dmcTimer_afterMany_cycle (k : Nat) (s : State) :
    (afterMany .cycle k s).d.timer =
      (fun c => (clockDivider c (dmcReload s.cfg.region s.d.rateIdx)).1)^[k] s.d.timer :=
  afterMany_eq_iterate (i := .cycle) (regs := fun s => dmcReload s.cfg.region s.d.rateIdx) (unit := (·.d.timer))
    (clock := fun p c => (clockDivider c p).1)
    (fun s => by simp [(cycleState_d_timer_rateIdx s).2]) (fun s => (cycleState_d_timer_rateIdx s).1) k s

/-- Settles O47: the first CYCLE reloads DMC_RATE - 1, the rest of the period counts down from it. -/
theorem dmcTimerFiresOncePerRate : Obligations.DmcTimerFiresOncePerRate := by
  unfold Obligations.DmcTimerFiresOncePerRate
  intro k s hzero hpos hk
  have hreload := dmcReload_toNat s.cfg.region s.d.rateIdx
  have hrange := dmcRate_range s.cfg.region s.d.rateIdx
  obtain ⟨k, rfl⟩ := Nat.exists_eq_add_one.mpr hpos
  have htimer : (afterMany .cycle (k + 1) s).d.timer =
      BitVec.ofNat 9 ((dmcReload s.cfg.region s.d.rateIdx).toNat - k) := by
    rw [dmcTimer_afterMany_cycle, hzero]
    exact clockDivider_iterate_from_zero _ (by omega)
  rw [htimer, BitVec.toNat_ofNat]
  omega

end Sys2Proof.Machine
end

section
/-! The status register and the clocking operations (45_status_and_clocking.md): the $4015 write and the step of a $4015
read, the enable gate on the published outputs, what a CYCLE leaves unchanged, and the clocks of a QF. -/

namespace Sys2Proof.Machine

open Sys2Proof.Safety

/-! ### The $4015 write -/

/-- The enable flags by arithmetic (10_state.md R35). -/
theorem enablesOf_eq (b : Byte) :
    enablesOf b = { p1 := bit b 0, p2 := bit b 1, t := bit b 2, n := bit b 3, d := bit b 4 } := by
  simp only [enablesOf, bitOf_eq_bit]

/-- What a $4015 write does to the DMC, as one update: a 1 restarts an idle DMC and leaves a playing one, a 0 stops it
(45_status_and_clocking.md R210; 44_dmc.md R182). -/
theorem Dmc.writeEnable_eq (on : Bool) (d : Dmc) :
    d.writeEnable on = { d with
      curAddr := if on ∧ d.bytesLeft = 0 then BitVec.ofNat 16 (0xC000 + 64 * d.addrReg.toNat) else d.curAddr
      bytesLeft :=
        if on then if d.bytesLeft = 0 then BitVec.ofNat 12 (16 * d.lenReg.toNat + 1) else d.bytesLeft else 0
      irq := false } := by
  cases on with
  | false => simp [Dmc.writeEnable]
  | true => by_cases hidle : d.bytesLeft = 0#12 <;> simp [Dmc.writeEnable, Dmc.restart_eq, hidle]

/-- Settles O18: the enable flags and the DMC's update by arithmetic; each length counter is kept or zeroed by its bit. -/
theorem statusWrite : Obligations.StatusWrite := by
  unfold Obligations.StatusWrite
  intro d s
  rw [exec_eq_after, after_wrStatus]
  simp only [enablesOf_eq, bitOf_eq_bit, Dmc.writeEnable_eq]
  rfl

/-! ### The step of a $4015 read -/

/-- The environment takes a raised strobe: its frame-IRQ flag clears (60_exceptions.md R233, R242). -/
theorem takeStrobe_of_raised {s : State} (h : s.frameIrqClear = true) :
    takeStrobe s = { s with frameIrqClear := false, frame := { s.frame with irq := false } } :=
  if_pos h

/-- A step that reads $4015: the answer shows the flag as it was, then the strobe clears it (45_status_and_clocking.md
R211; 60_exceptions.md R233). -/
theorem step_rdStatus {s : State} {rest : List Event} (h : s.stream = .op 0x2401500#28 :: rest) :
    step s = .next { s with
      rdata := some (statusByte s s.frame.irq (openBusValue s))
      frameIrqClear := false
      frame := { s.frame with irq := false }
      draws := drawsAfterOpenBus s
      stream := rest } := by
  have hdecode : decode 0x2401500#28 = .ok .rdStatus := Laws.decode_read_ofNat 0x4015#16
  have hreact (t : State) : react .rdStatus t = takeStrobe t := rfl
  rw [step_op h, Laws.issueWord_of_decode_ok hdecode, hreact, after_rdStatus, takeStrobe_of_raised rfl]
  rfl

/-- Settles O20: `step_rdStatus`, whose answer has the old flag in bit 6. -/
theorem statusReadStepClearsFrameIrq : Obligations.StatusReadStepClearsFrameIrq := by
  unfold Obligations.StatusReadStepClearsFrameIrq
  intro s rest h
  obtain ⟨-, hbit6, -⟩ := statusByte_bits s s.frame.irq (openBusValue s)
  exact ⟨_, _, step_rdStatus h, rfl, hbit6, rfl, rfl, rfl, rfl⟩

/-! ### The enable gate -/

/-- Under DISABLED_GATE a disabled channel publishes 0 (45_status_and_clocking.md R218). -/
theorem gated_of_disabled {cfg : Config} {enabled : Bool} (hgate : cfg.disabledGate = true) (h : enabled = false)
    (raw : Nat) : gated cfg enabled raw = 0 :=
  if_pos ⟨hgate, h⟩

/-- Without the gate every channel publishes its raw output (45_status_and_clocking.md R218). -/
theorem gated_of_no_gate {cfg : Config} (hgate : cfg.disabledGate = false) (enabled : Bool) (raw : Nat) :
    gated cfg enabled raw = raw := by
  simp [gated, hgate]

/-- An enabled channel publishes its raw output (45_status_and_clocking.md R218). -/
theorem gated_of_enabled {enabled : Bool} (h : enabled = true) (cfg : Config) (raw : Nat) :
    gated cfg enabled raw = raw := by
  simp [gated, h]

/-- The gate changes nothing on a channel that is silent while disabled (45_status_and_clocking.md R218). -/
theorem gated_of_disabled_silent {enabled : Bool} {raw : Nat} (h : enabled = false → raw = 0) (cfg : Config) :
    gated cfg enabled raw = raw := by
  unfold gated
  split
  · next hoff => exact (h hoff.2).symm
  · rfl

/-- Settles O26: the gate by its cases; under the invariant a disabled Pulse or Noise generator has length 0 and is
silent by itself. -/
theorem enableGateOnOutputs : Obligations.EnableGateOnOutputs := by
  unfold Obligations.EnableGateOnOutputs
  intro s
  refine ⟨fun hgate => ?_, fun hgate => ?_, fun h => gated_of_enabled h _ _, fun h => gated_of_enabled h _ _,
    fun h => gated_of_enabled h _ _, fun h => gated_of_enabled h _ _, fun h => gated_of_enabled h _ _, fun hinv => ?_⟩
  · exact ⟨fun h => gated_of_disabled hgate h _, fun h => gated_of_disabled hgate h _,
      fun h => gated_of_disabled hgate h _, fun h => gated_of_disabled hgate h _, fun h => gated_of_disabled hgate h _⟩
  · exact ⟨gated_of_no_gate hgate _ _, gated_of_no_gate hgate _ _, gated_of_no_gate hgate _ _,
      gated_of_no_gate hgate _ _, gated_of_no_gate hgate _ _⟩
  · exact ⟨gated_of_disabled_silent (fun h => Pulse.raw_of_len_zero (hinv.offP1 h) _ _) _,
      gated_of_disabled_silent (fun h => Pulse.raw_of_len_zero (hinv.offP2 h) _ _) _,
      gated_of_disabled_silent (fun h => Noise.raw_of_len_zero (hinv.offN h)) _⟩

/-! ### What a CYCLE leaves unchanged -/

/-- A Pulse generator after a CYCLE, clocked or not, differs in the timer and the sequencer alone (41_pulse.md R102). -/
theorem Pulse.timerClock_if_eq_update (odd : Bool) (p : Pulse) :
    (if odd then p.timerClock else p) = { p with
      timer := (if odd then p.timerClock else p).timer
      seq := (if odd then p.timerClock else p).seq } := by
  cases odd with
  | false => rfl
  | true => simp only [if_true, Pulse.timerClock_eq]

/-- A Noise generator after a CYCLE, clocked or not, differs in the timer and the LFSR alone (43_noise.md R162). -/
theorem Noise.timerClock_if_eq_update (odd : Bool) (r : Region) (n : Noise) :
    (if odd then n.timerClock r else n) = { n with
      timer := (if odd then n.timerClock r else n).timer
      lfsr := (if odd then n.timerClock r else n).lfsr } := by
  cases odd <;> rfl

/-- The DMC's register fields agree (10_state.md R16). -/
structure Dmc.SameRegisters (d e : Dmc) : Prop where
  irqEn : e.irqEn = d.irqEn
  loop : e.loop = d.loop
  rateIdx : e.rateIdx = d.rateIdx
  addrReg : e.addrReg = d.addrReg
  lenReg : e.lenReg = d.lenReg

/-- A CYCLE keeps the DMC's register fields: the timer clock does, and so does a fetch (44_dmc.md R183-R188). -/
theorem cycleState_d_sameRegisters (s : State) : s.d.SameRegisters (cycleState s).d := by
  obtain ⟨hirqEn, hloop, hrate, haddr, hlen, -⟩ := Dmc.timerClock_frame s.cfg.region s.cfg.dmcLimit s.d
  rw [cycleState_d]
  split
  · obtain ⟨hirqEn', hloop', hrate', haddr', hlen', -⟩ :=
      Dmc.fetched_frame (memAnswer (beforeReader s) (dmcBeforeReader s).curAddr) (dmcBeforeReader s)
    exact ⟨hirqEn'.trans hirqEn, hloop'.trans hloop, hrate'.trans hrate, haddr'.trans haddr, hlen'.trans hlen⟩
  · exact ⟨hirqEn, hloop, hrate, haddr, hlen⟩

/-- A DMC with the same register fields is an update of the others. -/
theorem Dmc.SameRegisters.eq_update {d e : Dmc} (h : d.SameRegisters e) :
    e = { d with
      timer := e.timer, level := e.level, shift := e.shift, bitsLeft := e.bitsLeft, silence := e.silence
      bufEmpty := e.bufEmpty, buffer := e.buffer, curAddr := e.curAddr, bytesLeft := e.bytesLeft, irq := e.irq } := by
  obtain ⟨hirqEn, hloop, hrate, haddr, hlen⟩ := h
  rw [← hirqEn, ← hloop, ← hrate, ← haddr, ← hlen]

/-- Settles O33: every field after a CYCLE, read back from the state before it; only the clocked fields of the five
generators, the phase and the counter of draws differ. -/
theorem cycleFrame : Obligations.CycleFrame := by
  unfold Obligations.CycleFrame
  intro s
  have hp1 := Pulse.timerClock_if_eq_update s.apuOdd s.p1
  have hp2 := Pulse.timerClock_if_eq_update s.apuOdd s.p2
  have hn := Noise.timerClock_if_eq_update s.apuOdd s.cfg.region s.n
  rw [← cycleState_p1] at hp1
  rw [← cycleState_p2] at hp2
  rw [← cycleState_n] at hn
  have ht : (cycleState s).t = { s.t with timer := (cycleState s).t.timer, seq := (cycleState s).t.seq } := by
    rw [cycleState_t]; rfl
  refine ⟨cycleState s, exec_eq_after .cycle s, ?_⟩
  rw [← hp1, ← hp2, ← ht, ← hn, ← (cycleState_d_sameRegisters s).eq_update, ← cycleState_cfg s, ← cycleState_en s,
    ← cycleState_apuOdd s, ← cycleState_rdata s, ← cycleState_frameIrqClear s, ← cycleState_openBus s,
    ← cycleState_frame s, ← cycleState_mem s, ← cycleState_stream s]

/-! ### The clocks of a QF -/

/-- A QF that finds the start flag set restarts the envelope (40_common_units.md R87). -/
theorem Envelope.clock_of_start {e : Envelope} (h : e.start = true) (vol : BitVec 4) (loop : Bool) :
    e.clock vol loop = { start := false, decay := 15, div := vol } := by
  simp [Envelope.clock, h]

/-- A QF's envelope clock: a start, a count down, or a step of the decay level (40_common_units.md R87). -/
theorem Envelope.clock_spec (vol : BitVec 4) (loop : Bool) (e : Envelope) :
    (e.clock vol loop).start = false ∧
    (e.start = true → (e.clock vol loop).decay = 15 ∧ (e.clock vol loop).div = vol) ∧
    (e.start = false → e.div ≠ 0 →
      (e.clock vol loop).div.toNat = e.div.toNat - 1 ∧ (e.clock vol loop).decay = e.decay) ∧
    (e.start = false → e.div = 0 → (e.clock vol loop).div = vol ∧
      (e.decay ≠ 0 → (e.clock vol loop).decay.toNat = e.decay.toNat - 1) ∧
      (e.decay = 0 → (e.clock vol loop).decay = if loop then 15 else 0)) := by
  cases hstart : e.start with
  | true => simp [Envelope.clock_of_start hstart]
  | false =>
    by_cases hdiv : e.div = 0#4
    · obtain ⟨hclear, hreload, hdecay⟩ := Envelope.clock_of_div_eq_zero hstart hdiv vol loop
      refine ⟨hclear, nofun, fun _ hpos => absurd hdiv hpos, fun _ _ => ⟨hreload, fun hpos => ?_, fun hzero => ?_⟩⟩
      · have hne : e.decay.toNat ≠ 0 := ((ne_zero_iff_toNat_pos e.decay).mp hpos).ne'
        rw [hdecay, if_neg fun h => hne h.1]
      · apply BitVec.eq_of_toNat_eq
        cases loop <;> simp [hdecay, hzero]
    · rw [Envelope.clock_of_div_ne_zero hstart hdiv]
      exact ⟨hstart, nofun, fun _ _ => ⟨toNat_pred e.div hdiv, rfl⟩, fun _ hzero => absurd hzero hdiv⟩

/-- A linear-counter clock by arithmetic (42_triangle.md R144). -/
theorem Triangle.linearClock_eq_ofNat (t : Triangle) :
    t.linearClock = { t with
      lin := if t.linReload then t.linLoad else if t.lin ≠ 0 then BitVec.ofNat 7 (t.lin.toNat - 1) else t.lin
      linReload := if t.ctrl = false then false else t.linReload } := by
  cases hreload : t.linReload with
  | true =>
    rw [Triangle.linearClock_of_linReload hreload]
    cases hctrl : t.ctrl <;> rfl
  | false =>
    have hlin : (if t.lin ≠ 0 then BitVec.ofNat 7 (t.lin.toNat - 1) else t.lin) = BitVec.ofNat 7 (t.lin.toNat - 1) := by
      split <;> bv_omega
    rw [Triangle.linearClock_of_not_linReload hreload, hlin]
    simp [hreload]

/-- Settles O34: `Envelope.clock_spec` for each of the three envelopes, and the linear counter by arithmetic. -/
theorem quarterFrameClocksEnvelopesAndLinearCounter : Obligations.QuarterFrameClocksEnvelopesAndLinearCounter := by
  unfold Obligations.QuarterFrameClocksEnvelopesAndLinearCounter
  intro s
  simp only [← Triangle.linearClock_eq_ofNat]
  exact ⟨_, _, _, exec_eq_after .qf s, List.forall_mem_cons.mpr ⟨s.p1.env.clock_spec s.p1.vol s.p1.halt,
    List.forall_mem_cons.mpr ⟨s.p2.env.clock_spec s.p2.vol s.p2.halt,
      List.forall_mem_singleton.mpr (s.n.env.clock_spec s.n.vol s.n.halt)⟩⟩⟩

end Sys2Proof.Machine
end

section
/-! The rules of 60_exceptions.md: every operation completes (R230), what sets and clears the interrupt output (R231-R234),
and the mixer (R244). Both parts of the mixer are one saturating curve of a weighted sum of their inputs, which turns its
range into monotonicity and two numbers. -/

namespace Sys2Proof.Machine

open Sys2Proof.Safety

/-! ### Completion -/

/-- Settles O48: `after` names the next state of every operation, and there is no reason to fault. -/
theorem everyOperationCompletes : Obligations.EveryOperationCompletes :=
  ⟨fun i s => ⟨after i s, exec_eq_after i s⟩, fun _ r => nomatch r⟩

/-! ### The interrupt output -/

/-- A fetch raises the IRQ flag only where it ends a sample that does not loop, with the IRQ enabled (44_dmc.md R188). -/
theorem Dmc.fetched_raises_irq {d : Dmc} {b : Byte} (hoff : d.irq = false) (hon : (d.fetched b).irq = true) :
    d.irqEn = true ∧ d.loop = false ∧ (d.fetched b).bytesLeft = 0 := by
  have hchanged : (d.fetched b).irq ≠ d.irq := by simp [hoff, hon]
  obtain ⟨-, -, -, -, hkept⟩ | ⟨-, hbytes, hkept | ⟨hlast, hloop, hen, -⟩⟩ := Dmc.fetched_cases b d
  · exact absurd hkept hchanged
  · exact absurd hkept hchanged
  · exact ⟨hen, hloop, by rw [hbytes, hlast]; rfl⟩

/-- A fetch never clears the IRQ flag (44_dmc.md R188). -/
theorem Dmc.fetched_irq_of_irq {d : Dmc} (h : d.irq = true) (b : Byte) : (d.fetched b).irq = true := by
  obtain ⟨-, -, -, -, hkept⟩ | ⟨-, -, hkept | ⟨-, -, -, hraised⟩⟩ := Dmc.fetched_cases b d
  · exact hkept.trans h
  · exact hkept.trans h
  · exact hraised

/-- The timer clock of a CYCLE leaves the IRQ flag, its enable and the loop flag alone (44_dmc.md R183-R185). -/
theorem dmcBeforeReader_irq_frame (s : State) :
    (dmcBeforeReader s).irq = s.d.irq ∧ (dmcBeforeReader s).irqEn = s.d.irqEn ∧ (dmcBeforeReader s).loop = s.d.loop := by
  obtain ⟨hen, hloop, -, -, -, -, -, -, hirq, -⟩ := Dmc.timerClock_frame s.cfg.region s.cfg.dmcLimit s.d
  exact ⟨hirq, hen, hloop⟩

/-- A CYCLE raises the IRQ flag only by the fetch that ends a sample (60_exceptions.md R232). -/
theorem cycleState_raises_irq {s : State} (hoff : s.d.irq = false) (hon : (cycleState s).d.irq = true) :
    s.d.irqEn = true ∧ s.d.loop = false ∧ (cycleState s).d.bytesLeft = 0 := by
  obtain ⟨hirq, hen, hloop⟩ := dmcBeforeReader_irq_frame s
  by_cases hfetch : (dmcBeforeReader s).wantsFetch = true
  · rw [cycleState_d_of_wantsFetch hfetch] at hon ⊢
    rw [← hen, ← hloop]
    exact Dmc.fetched_raises_irq (hirq.trans hoff) hon
  · rw [(cycleState_of_not_wantsFetch hfetch).1, hirq, hoff] at hon
    cases hon

/-- A CYCLE never clears the IRQ flag (60_exceptions.md R234). -/
theorem cycleState_irq_of_irq {s : State} (h : s.d.irq = true) : (cycleState s).d.irq = true := by
  have hbefore : (dmcBeforeReader s).irq = true := (dmcBeforeReader_irq_frame s).1.trans h
  rw [cycleState_d]
  split
  · exact Dmc.fetched_irq_of_irq hbefore _
  · exact hbefore

/-- A $4010 write clears the IRQ flag or leaves it, by bit 7 of the data (44_dmc.md R190). -/
theorem Dmc.writeCtrl_irq (b : Byte) (d : Dmc) : (d.writeCtrl b).irq = if bit b 7 then d.irq else false := by
  rw [Dmc.writeCtrl_eq]

/-- A $4015 write clears the IRQ flag (45_status_and_clocking.md R210). -/
theorem Dmc.writeEnable_irq (on : Bool) (d : Dmc) : (d.writeEnable on).irq = false := by
  rw [Dmc.writeEnable_eq]

/-- Only a CYCLE raises the IRQ flag (60_exceptions.md R232). -/
theorem eq_cycle_of_raises_irq {i : Instr} {s : State} (hoff : s.d.irq = false) (hon : (after i s).d.irq = true) :
    i = .cycle := by
  cases i with
  | cycle => rfl
  | wrStatus d => simp [Dmc.writeEnable_irq] at hon
  | wrDmcCtrl d => simp [Dmc.writeCtrl_irq, hoff] at hon
  | reset => exact absurd hon Bool.false_ne_true
  | _ => exact absurd (hoff.symm.trans hon) (by decide)

/-- Only a $4015 write, a $4010 write with bit 7 = 0 and RESET clear the IRQ flag (60_exceptions.md R234). -/
theorem cases_of_clears_irq {i : Instr} {s : State} (hon : s.d.irq = true) (hoff : (after i s).d.irq = false) :
    (∃ d, i = .wrStatus d) ∨ (∃ d, i = .wrDmcCtrl d ∧ bit d 7 = false) ∨ i = .reset := by
  cases i with
  | wrStatus d => exact .inl ⟨d, rfl⟩
  | wrDmcCtrl d =>
    refine .inr (.inl ⟨d, rfl, ?_⟩)
    simpa [Dmc.writeCtrl_irq, hon] using hoff
  | reset => exact .inr (.inr rfl)
  | cycle => exact absurd ((cycleState_irq_of_irq hon).symm.trans hoff) (by decide)
  | _ => exact absurd (hon.symm.trans hoff) (by decide)

/-- Settles O51: an operation that raises the flag is a CYCLE, whose fetch says the rest; the clearing operations by
cases. -/
theorem dmcIrqSetAndClearedOnlyByItsRules : Obligations.DmcIrqSetAndClearedOnlyByItsRules := by
  unfold Obligations.DmcIrqSetAndClearedOnlyByItsRules
  intro i s t ht
  obtain rfl : t = after i s := next_eq_after ht
  refine ⟨rfl, fun hoff hon => ?_, cases_of_clears_irq⟩
  obtain rfl := eq_cycle_of_raises_irq hoff hon
  exact ⟨rfl, cycleState_raises_irq hoff hon⟩

/-! ### The ranges of the published outputs -/

/-- The gate never publishes more than the raw output (45_status_and_clocking.md R218). -/
theorem gated_le (cfg : Config) (enabled : Bool) (raw : Nat) : gated cfg enabled raw ≤ raw := by
  unfold gated
  split
  · exact Nat.zero_le raw
  · exact le_rfl

/-- `raw.Pn` is 0 or a volume of four bits (41_pulse.md R107). -/
theorem Pulse.raw_le (mode : NegateMode) (n : PulseId) (p : Pulse) : p.raw mode n ≤ 15 := by
  unfold Pulse.raw
  split
  · exact Nat.le_of_lt_succ p.volume.isLt
  · exact Nat.zero_le 15

/-- Every step of the Triangle's waveform is at most 15, in either order (42_triangle.md R141). -/
theorem triValue_le (order : TriOrder) (k : BitVec 5) : triValue order k ≤ 15 := by
  cases order <;> revert k <;> decide

/-- `raw.T` is 0 or a step of the waveform (42_triangle.md R145). -/
theorem Triangle.raw_le (order : TriOrder) (halted : TriHaltOutput) (t : Triangle) : t.raw order halted ≤ 15 := by
  unfold Triangle.raw
  split
  · exact Nat.zero_le 15
  · exact triValue_le order t.seq

/-- `raw.N` is 0 or a volume of four bits (43_noise.md R164). -/
theorem Noise.raw_le (n : Noise) : n.raw ≤ 15 := by
  unfold Noise.raw
  split
  · exact Nat.le_of_lt_succ n.volume.isLt
  · exact Nat.zero_le 15

/-- `raw.D` is a level of seven bits (44_dmc.md R189). -/
theorem Dmc.raw_le (d : Dmc) : d.raw ≤ 127 := Nat.le_of_lt_succ d.level.isLt

/-- The five published outputs stay in their ranges (10_state.md R17). -/
theorem outputs_le (s : State) : outP1 s ≤ 15 ∧ outP2 s ≤ 15 ∧ outT s ≤ 15 ∧ outN s ≤ 15 ∧ outD s ≤ 127 :=
  ⟨(gated_le _ _ _).trans (s.p1.raw_le _ _), (gated_le _ _ _).trans (s.p2.raw_le _ _),
    (gated_le _ _ _).trans (s.t.raw_le _ _), (gated_le _ _ _).trans s.n.raw_le, (gated_le _ _ _).trans s.d.raw_le⟩

/-! ### The mixer -/

/-- The curve of both parts of the mixer: `1 / (1 / x + 100)` cleared of the inner fraction, so that its value at 0 is the
0 the rule gives to silent inputs (60_exceptions.md R244). -/
def mixCurve (x : Rat) : Rat := x / (1 + 100 * x)

/-- The formula's quotient is the curve. -/
theorem div_one_div_add_eq_mixCurve {x : Rat} (hx : x ≠ 0) (c : Rat) : c / (1 / x + 100) = c * mixCurve x := by
  have hsum : 1 / x + 100 = (1 + 100 * x) / x := by field_simp
  rw [hsum, mixCurve, div_div_eq_mul_div, mul_div_assoc]

theorem mixCurve_nonneg {x : Rat} (hx : 0 ≤ x) : 0 ≤ mixCurve x := by
  unfold mixCurve
  positivity

theorem mixCurve_mono {x y : Rat} (hx : 0 ≤ x) (hxy : x ≤ y) : mixCurve x ≤ mixCurve y := by
  have hx' : 0 < 1 + 100 * x := by linarith
  have hy' : 0 < 1 + 100 * y := by linarith
  rw [mixCurve, mixCurve, div_le_div_iff₀ hx' hy']
  linarith

/-- The Pulse part as the curve of its weighted inputs. -/
theorem mixPulse_eq_mixCurve (p1 p2 : Nat) : mixPulse p1 p2 = 95.88 * mixCurve (((p1 : Rat) + p2) / 8128) := by
  by_cases h : p1 + p2 = 0
  · obtain ⟨rfl, rfl⟩ := Nat.add_eq_zero_iff.mp h
    simp [mixPulse, mixCurve]
  · have hx : ((p1 : Rat) + p2) / 8128 ≠ 0 := div_ne_zero (by exact_mod_cast h) (by norm_num)
    rw [mixPulse, if_neg h, ← div_one_div_add_eq_mixCurve hx, one_div_div, Nat.cast_add]
    norm_num

/-- The weighted sum of the inputs of the Triangle, Noise and DMC part. -/
def tndSum (t n d : Nat) : Rat := (t : Rat) / 8227 + (n : Rat) / 12241 + (d : Rat) / 22638

theorem tndSum_nonneg (t n d : Nat) : 0 ≤ tndSum t n d := by
  unfold tndSum
  positivity

theorem tndSum_mono {t n d t' n' d' : Nat} (ht : t ≤ t') (hn : n ≤ n') (hd : d ≤ d') :
    tndSum t n d ≤ tndSum t' n' d' := by
  unfold tndSum
  gcongr

theorem tndSum_eq_zero_iff (t n d : Nat) : tndSum t n d = 0 ↔ t = 0 ∧ n = 0 ∧ d = 0 := by
  have ht : (0 : Rat) ≤ (t : Rat) / 8227 := by positivity
  have hn : (0 : Rat) ≤ (n : Rat) / 12241 := by positivity
  have hd : (0 : Rat) ≤ (d : Rat) / 22638 := by positivity
  rw [tndSum, add_eq_zero_iff_of_nonneg (add_nonneg ht hn) hd, add_eq_zero_iff_of_nonneg ht hn]
  simp [and_assoc]

/-- The Triangle, Noise and DMC part as the curve of its weighted inputs. -/
theorem mixTnd_eq_mixCurve (t n d : Nat) : mixTnd t n d = 159.79 * mixCurve (tndSum t n d) := by
  by_cases h : t = 0 ∧ n = 0 ∧ d = 0
  · rw [mixTnd, if_pos h, (tndSum_eq_zero_iff t n d).mpr h]
    simp [mixCurve]
  · rw [mixTnd, if_neg h, ← div_one_div_add_eq_mixCurve (mt (tndSum_eq_zero_iff t n d).mp h), tndSum]
    norm_num

/-- The Pulse part lies between 0 and its value at the largest inputs. -/
theorem mixPulse_range {p1 p2 : Nat} (h1 : p1 ≤ 15) (h2 : p2 ≤ 15) :
    0 ≤ mixPulse p1 p2 ∧ mixPulse p1 p2 ≤ mixPulse 15 15 := by
  simp only [mixPulse_eq_mixCurve]
  have hx : (0 : Rat) ≤ ((p1 : Rat) + p2) / 8128 := by positivity
  have hle : ((p1 : Rat) + p2) / 8128 ≤ ((15 : Nat) + (15 : Nat)) / 8128 := by gcongr
  exact ⟨mul_nonneg (by norm_num) (mixCurve_nonneg hx), mul_le_mul_of_nonneg_left (mixCurve_mono hx hle) (by norm_num)⟩

/-- The Triangle, Noise and DMC part lies between 0 and its value at the largest inputs. -/
theorem mixTnd_range {t n d : Nat} (ht : t ≤ 15) (hn : n ≤ 15) (hd : d ≤ 127) :
    0 ≤ mixTnd t n d ∧ mixTnd t n d ≤ mixTnd 15 15 127 := by
  simp only [mixTnd_eq_mixCurve]
  have hx := tndSum_nonneg t n d
  exact ⟨mul_nonneg (by norm_num) (mixCurve_nonneg hx),
    mul_le_mul_of_nonneg_left (mixCurve_mono hx (tndSum_mono ht hn hd)) (by norm_num)⟩

/-- The two parts at the largest inputs stay within 1, as the table's last row shows (60_exceptions.md R244). -/
theorem mix_largest_le_one : mixPulse 15 15 + mixTnd 15 15 127 ≤ 1 := by
  norm_num [mixPulse, mixTnd]

/-- The mixer's output lies in [0, 1] (60_exceptions.md R244). -/
theorem mix_mem_unit (s : State) : 0 ≤ mix s ∧ mix s ≤ 1 := by
  obtain ⟨hp1, hp2, ht, hn, hd⟩ := outputs_le s
  obtain ⟨hpulse, hpulse'⟩ := mixPulse_range hp1 hp2
  obtain ⟨htnd, htnd'⟩ := mixTnd_range ht hn hd
  exact ⟨add_nonneg hpulse htnd, (add_le_add hpulse' htnd').trans mix_largest_le_one⟩

/-- The mixer's output by the formula of 60_exceptions.md R244. -/
theorem mix_eq_formula (s : State) :
    mix s =
      (if outP1 s = 0 ∧ outP2 s = 0 then 0 else 95.88 / (8128 / ((outP1 s : Rat) + outP2 s) + 100)) +
      (if outT s = 0 ∧ outN s = 0 ∧ outD s = 0 then 0
        else 159.79 / (1 / ((outT s : Rat) / 8227 + (outN s : Rat) / 12241 + (outD s : Rat) / 22638) + 100)) := by
  have hpulse : (9588 / 100 : Rat) = 95.88 := by norm_num
  have htnd : (15979 / 100 : Rat) = 159.79 := by norm_num
  simp only [mix, mixPulse, mixTnd, hpulse, htnd, Nat.add_eq_zero_iff, Nat.cast_add]

/-- The mixer's output is a function of the five published outputs. -/
theorem mix_of_outputs {s : State} {p1 p2 t n d : Nat}
    (h : (outP1 s, outP2 s, outT s, outN s, outD s) = (p1, p2, t, n, d)) : mix s = mixPulse p1 p2 + mixTnd t n d := by
  simp only [Prod.mk.injEq] at h
  obtain ⟨rfl, rfl, rfl, rfl, rfl⟩ := h
  rfl

/-- Settles O60: the formula and the range by lemmas; each row of samples is a value of the two parts at given inputs. -/
theorem mixOfOutputsByItsFormula : Obligations.MixOfOutputsByItsFormula := by
  unfold Obligations.MixOfOutputsByItsFormula
  intro s
  obtain ⟨hnonneg, hle⟩ := mix_mem_unit s
  refine ⟨mix_eq_formula s, hnonneg, hle, ?_⟩
  rintro ⟨⟨p1, p2, t, n, d⟩, v⟩ hrow hout
  rw [mix_of_outputs hout, abs_le]
  simp only [List.mem_cons, List.not_mem_nil, or_false, Prod.mk.injEq] at hrow
  rcases hrow with h | h | h | h | h | h | h | h <;> obtain ⟨⟨rfl, rfl, rfl, rfl, rfl⟩, rfl⟩ := h <;>
    norm_num [mixPulse, mixTnd]

end Sys2Proof.Machine
end

section
/-! RESET and the hazards of 70_reset_and_hazards.md: a length load needs the enable bit first (R263), a playing sample
restarts only after it is stopped (R266), RESET silences the channels (R260), and what $00 written to every register after
RESET leaves (R262). Three of them turn on what one write does to one counter; R262 on closed facts about each unit. -/

namespace Sys2Proof.Machine

open Sys2Proof.Safety

/-! ### Enable before length load -/

/-- A length-loading write of an enabled channel loads an entry of LENGTH_TABLE, and none is 0 (40_common_units.md R81). -/
theorem lengthLoad_pos_of_enabled {enabled : Bool} (h : enabled = true) (d : Byte) (len : BitVec 8) :
    0 < (lengthLoad enabled d len).toNat := by
  rw [lengthLoad, if_pos h]
  exact Nat.lt_of_lt_of_le Nat.two_pos (lengthOf_range (lengthIndex d)).1

/-- Settles O55: a disabled channel's clause of the invariant is kept by the load, so its counter stays 0; after the
$4015 write the channel's enable flag is the bit written, and the load reaches the table. -/
theorem enableBeforeLengthLoad : Obligations.EnableBeforeLengthLoad := by
  unfold Obligations.EnableBeforeLengthLoad
  intro d e s hinv
  obtain ⟨h, -⟩ := (inv_iff s).mp hinv
  simp only [← bitOf_eq_bit]
  exact ⟨(h.p1.load d).off, (h.p2.load d).off, (h.t.load d).off, (h.n.load d).off,
    fun hon => lengthLoad_pos_of_enabled hon d _, fun hon => lengthLoad_pos_of_enabled hon d _,
    fun hon => lengthLoad_pos_of_enabled hon d _, fun hon => lengthLoad_pos_of_enabled hon d _⟩

/-! ### Restarting the DMC -/

/-- A $4015 write that enables a playing DMC only clears its IRQ flag (45_status_and_clocking.md R210). -/
theorem Dmc.writeEnable_of_playing {d : Dmc} (h : d.bytesLeft ≠ 0#12) : d.writeEnable true = { d with irq := false } := by
  rw [Dmc.writeEnable, if_pos rfl, if_neg h]

/-- Stopping the DMC and then enabling it runs the restart procedure (45_status_and_clocking.md R210). -/
theorem Dmc.writeEnable_after_stop (d : Dmc) :
    (d.writeEnable false).writeEnable true = { d.restart with irq := false } :=
  rfl

/-- What a $4015 write does to the DMC, by bit 4 of the data. -/
theorem after_wrStatus_d {b : Byte} {on : Bool} (h : bit b 4 = on) (s : State) :
    (after (.wrStatus b) s).d = s.d.writeEnable on := by
  rw [← h, ← bitOf_eq_bit]
  rfl

/-- Settles O56: an enabling write alone leaves a playing DMC as it is; after a stop it restarts from the registers, and
the restart procedure touches the address and the count alone. -/
theorem dmcRestartNeedsAnIdleDmc : Obligations.DmcRestartNeedsAnIdleDmc := by
  unfold Obligations.DmcRestartNeedsAnIdleDmc
  intro off on s hoff hon hplaying
  have hkept : (after (.wrStatus on) s).d = { s.d with irq := false } := by
    rw [after_wrStatus_d hon, Dmc.writeEnable_of_playing hplaying]
  have hrestarted : (after (.wrStatus on) (after (.wrStatus off) s)).d = { s.d.restart with irq := false } := by
    rw [after_wrStatus_d hon, after_wrStatus_d hoff, Dmc.writeEnable_after_stop]
  rw [hkept, hrestarted]
  exact ⟨rfl, rfl, s.d.restart_curAddr, s.d.restart_bytesLeft, rfl, rfl, rfl⟩

/-! ### RESET -/

/-- A CYCLE outside an APU cycle clocks neither the Pulse timers nor the Noise timer (45_status_and_clocking.md R214). -/
theorem cycleState_apuUnits_of_even {s : State} (h : s.apuOdd = false) :
    (cycleState s).p1 = s.p1 ∧ (cycleState s).p2 = s.p2 ∧ (cycleState s).n = s.n := by
  simp [h]

/-- Settles O38: RESET clears every enable flag, so the gate publishes 0 five times, and clears the phase, so the next
CYCLE is no APU cycle. -/
theorem afterResetSilentAndIdle : Obligations.AfterResetSilentAndIdle := by
  unfold Obligations.AfterResetSilentAndIdle
  intro s hgate
  obtain ⟨hp1, hp2, hn⟩ := cycleState_apuUnits_of_even (s := after .reset s) rfl
  exact ⟨_, _, exec_eq_after .reset s, exec_eq_after .cycle _, rfl, gated_of_disabled hgate rfl _,
    gated_of_disabled hgate rfl _, gated_of_disabled hgate rfl _, gated_of_disabled hgate rfl _,
    gated_of_disabled hgate rfl _, hp1, hp2, hn⟩

/-! ### The replay of zero bytes -/

/-- A Pulse generator after RESET and $00 in its registers: the sweep reload flag and the envelope start flag are set. -/
def Pulse.zeroWritten : Pulse := { Pulse.reset with swReload := true, env := { Envelope.reset with start := true } }

/-- The Triangle after RESET and $00 in its registers: the linear reload flag is set. -/
def Triangle.zeroWritten : Triangle := { Triangle.reset with linReload := true }

/-- The Noise generator after RESET and $00 in its registers: the envelope start flag is set. -/
def Noise.zeroWritten : Noise := { Noise.reset with env := { Envelope.reset with start := true } }

/-- The state after RESET and $00 in every register: the six flags (70_reset_and_hazards.md R262). -/
def State.zeroWritten (s : State) : State :=
  { after .reset s with
    p1 := Pulse.zeroWritten, p2 := Pulse.zeroWritten, t := Triangle.zeroWritten, n := Noise.zeroWritten }

theorem Pulse.write_zeros_reset :
    (((Pulse.reset.writeCtrl 0).writeSweep 0).writeTimerLow 0).writeTimerHigh false 0 = Pulse.zeroWritten := by
  decide

theorem Triangle.write_zeros_reset :
    ((Triangle.reset.writeLinear 0).writeTimerLow 0).writeTimerHigh false 0 = Triangle.zeroWritten := by
  decide

theorem Noise.write_zeros_reset :
    ((Noise.reset.writeCtrl 0).writePeriod 0).writeLength false 0 = Noise.zeroWritten := by
  decide

theorem Dmc.write_zeros_reset :
    { (Dmc.reset.writeCtrl 0).writeLoad 0 with addrReg := 0, lenReg := 0 } = Dmc.reset := by
  decide

/-- $00 in Pulse1's registers, from a reset and disabled generator (41_pulse.md R108-R111). -/
theorem after_zeros_p1 {s : State} (hreset : s.p1 = Pulse.reset) (hoff : s.en.p1 = false) :
    after (.wrP1Thi 0) (after (.wrP1Tlo 0) (after (.wrP1Sweep 0) (after (.wrP1Ctrl 0) s))) =
      s.setP1 Pulse.zeroWritten := by
  rw [← Pulse.write_zeros_reset, ← hreset, ← hoff]
  rfl

/-- $00 in Pulse2's registers, from a reset and disabled generator (41_pulse.md R112-R115). -/
theorem after_zeros_p2 {s : State} (hreset : s.p2 = Pulse.reset) (hoff : s.en.p2 = false) :
    after (.wrP2Thi 0) (after (.wrP2Tlo 0) (after (.wrP2Sweep 0) (after (.wrP2Ctrl 0) s))) =
      s.setP2 Pulse.zeroWritten := by
  rw [← Pulse.write_zeros_reset, ← hreset, ← hoff]
  rfl

/-- $00 in the Triangle's registers, from a reset and disabled generator (42_triangle.md R146-R149). -/
theorem after_zeros_t {s : State} (hreset : s.t = Triangle.reset) (hoff : s.en.t = false) :
    after (.wrTriThi 0) (after (.wrTriTlo 0) (after (.wr4009Unused 0) (after (.wrTriLinear 0) s))) =
      s.setT Triangle.zeroWritten := by
  rw [← Triangle.write_zeros_reset, ← hreset, ← hoff]
  rfl

/-- $00 in the Noise registers, from a reset and disabled generator (43_noise.md R165-R168). -/
theorem after_zeros_n {s : State} (hreset : s.n = Noise.reset) (hoff : s.en.n = false) :
    after (.wrNoiseLen 0) (after (.wrNoisePeriod 0) (after (.wr400dUnused 0) (after (.wrNoiseCtrl 0) s))) =
      s.setN Noise.zeroWritten := by
  rw [← Noise.write_zeros_reset, ← hreset, ← hoff]
  rfl

/-- $00 in the DMC's registers, from a reset DMC (44_dmc.md R190-R193). -/
theorem after_zeros_d {s : State} (hreset : s.d = Dmc.reset) :
    after (.wrDmcLen 0) (after (.wrDmcAddr 0) (after (.wrDmcLoad 0) (after (.wrDmcCtrl 0) s))) =
      s.setD Dmc.reset := by
  rw [← Dmc.write_zeros_reset, ← hreset]
  rfl

/-- $00 written to every register after RESET sets the six flags and nothing else (70_reset_and_hazards.md R262). -/
theorem zeroBytes_after_reset (s : State) :
    zeroBytes.foldl (fun x i => after i x) (after .reset s) = s.zeroWritten := by
  simp only [zeroBytes, List.cons_append, List.nil_append, List.foldl_cons, List.foldl_nil]
  rw [after_zeros_p1 rfl rfl, after_zeros_p2 rfl rfl, after_zeros_t rfl rfl, after_zeros_n rfl rfl, after_zeros_d rfl]
  rfl

/-- A QF and an HF leave a reset Pulse generator as it is. -/
theorem Pulse.frameClocks_reset (mode : NegateMode) (n : PulseId) :
    (Pulse.reset.envelopeClock.lengthClock).sweepClock mode n = Pulse.reset := by
  cases mode <;> cases n <;> decide

/-- A QF and an HF use up both flags of a Pulse generator; the started envelope stands at decay 15. -/
theorem Pulse.frameClocks_zeroWritten (mode : NegateMode) (n : PulseId) :
    (Pulse.zeroWritten.envelopeClock.lengthClock).sweepClock mode n =
      { Pulse.reset with env := { Envelope.reset with decay := 15 } } := by
  cases mode <;> cases n <;> decide

/-- A QF and an HF leave the RESET state as it is. -/
theorem frameClocks_after_reset (s : State) : after .hf (after .qf (after .reset s)) = after .reset s := by
  have hp := Pulse.frameClocks_reset s.cfg.sweepNegateP1
  have ht : Triangle.reset.linearClock.lengthClock = Triangle.reset := by decide
  have hn : Noise.reset.envelopeClock.lengthClock = Noise.reset := by decide
  simp only [after_hf, after_qf, after_reset, hp, ht, hn]

/-- A QF and an HF use up the six flags; only the decay levels of the three started envelopes stay changed. -/
theorem frameClocks_zeroWritten (s : State) :
    after .hf (after .qf s.zeroWritten) =
      { after .reset s with
        p1 := { Pulse.reset with env := { Envelope.reset with decay := 15 } }
        p2 := { Pulse.reset with env := { Envelope.reset with decay := 15 } }
        n := { Noise.reset with env := { Envelope.reset with decay := 15 } } } := by
  have hp := Pulse.frameClocks_zeroWritten s.cfg.sweepNegateP1
  have ht : Triangle.zeroWritten.linearClock.lengthClock = Triangle.reset := by decide
  have hn : Noise.zeroWritten.envelopeClock.lengthClock =
      { Noise.reset with env := { Envelope.reset with decay := 15 } } := by decide
  simp only [after_hf, after_qf, after_reset, State.zeroWritten, hp, ht, hn]

/-- The flags the zero bytes set reach no output: the length counters stay 0, and the Triangle's output does not read its
reload flag. -/
theorem outputs_zeroWritten (s : State) :
    outP1 s.zeroWritten = outP1 (after .reset s) ∧ outP2 s.zeroWritten = outP2 (after .reset s) ∧
    outT s.zeroWritten = outT (after .reset s) ∧ outN s.zeroWritten = outN (after .reset s) ∧
    outD s.zeroWritten = outD (after .reset s) := by
  have hp (n : PulseId) : Pulse.zeroWritten.raw s.cfg.sweepNegateP1 n = Pulse.reset.raw s.cfg.sweepNegateP1 n := by
    rw [Pulse.raw_of_len_zero rfl, Pulse.raw_of_len_zero rfl]
  have hn : Noise.zeroWritten.raw = Noise.reset.raw := by
    rw [Noise.raw_of_len_zero rfl, Noise.raw_of_len_zero rfl]
  exact ⟨congrArg (gated _ _) (hp .one), congrArg (gated _ _) (hp .two), rfl, congrArg (gated _ _) hn, rfl⟩

/-- Settles O58: the replay gives `State.zeroWritten`, whose outputs are those of RESET; a QF and an HF leave the one
state as it is and take the other to it but for the decay levels. -/
theorem replayOfZeroBytesAfterReset : Obligations.ReplayOfZeroBytesAfterReset := by
  unfold Obligations.ReplayOfZeroBytesAfterReset
  rintro s r z rfl rfl
  rw [zeroBytes_after_reset, frameClocks_zeroWritten, frameClocks_after_reset]
  obtain ⟨hp1, hp2, ht, hn, hd⟩ := outputs_zeroWritten s
  exact ⟨rfl, hp1, hp2, ht, hn, hd, rfl, rfl, rfl, rfl⟩

end Sys2Proof.Machine
end

section
/-! The step and the environment around it: which words decode to what, the environment's reaction (60_exceptions.md R233,
R240, R242), the events that are no operation, and one CPU cycle of CLOCK (R241-R243). A frame table is read through the two
lists of counts at which it issues a QF alone and a QF with an HF after it (`TableIssues`). -/

namespace Sys2Proof.Machine

open Sys2Proof.Safety

/-! ### Words and the step -/

theorem encode_cycle : encode .cycle = 0x4000000#28 := by decide

theorem encode_qf : encode .qf = 0x6000000#28 := by decide

theorem encode_hf : encode .hf = 0x8000000#28 := by decide

theorem encode_reset : encode .reset = 0xA000000#28 := by decide

/-- Settles O5: the WRITEs and the READ are words of the address rows, the control words those of their operations. -/
theorem writtenOutWordsDecode : Obligations.WrittenOutWordsDecode := by
  unfold Obligations.WrittenOutWordsDecode
  rw [← encode_cycle, ← encode_qf, ← encode_hf, ← encode_reset]
  exact ⟨Laws.decode_write_ofNat 0x4015#16 0x01#8, Laws.decode_write_ofNat 0x4000#16 0xBF#8,
    Laws.decode_write_ofNat 0x4003#16 0x08#8, Laws.decode_write_ofNat 0x4017#16 0xC0#8, Laws.decode_read_ofNat 0x4016#16,
    (Laws.decodesTo_encode rfl).decode_eq, (Laws.decodesTo_encode rfl).decode_eq,
    (Laws.decodesTo_encode rfl).decode_eq, (Laws.decodesTo_encode rfl).decode_eq⟩

/-- Settles O6: a step issues the word at the head of the stream, and `after` is the one next state of an operation. -/
theorem stepIssuesTheDecodedOperation : Obligations.StepIssuesTheDecodedOperation := by
  unfold Obligations.StepIssuesTheDecodedOperation
  intro s w rest hstream
  rw [step_op hstream]
  refine ⟨fun i t hdecode hexec => ?_, fun e hdecode => Laws.issueWord_of_decode_error hdecode _⟩
  rw [Laws.issueWord_of_decode_ok hdecode, after_of_exec hexec]

/-! ### The environment's reaction -/

/-- With no strobe raised there is none to take (60_exceptions.md R233). -/
theorem takeStrobe_of_not_raised {s : State} (h : s.frameIrqClear = false) : takeStrobe s = s := by
  simp [takeStrobe, h]

/-- The frame sequencer sees writes of $4017 only (60_exceptions.md R240). -/
theorem see4017_of_ne {a : Addr} (h : a ≠ 0x4017#16) (d : Byte) (s : State) : see4017 a d s = s :=
  if_neg h

/-- Operations other than RESET and a $4017 write get no reaction but the taking of the strobe. -/
theorem react_eq_takeStrobe {i : Instr} (hreset : i ≠ .reset) (h4017 : ∀ d, i ≠ .wrOther 0x4017#16 d) (s : State) :
    react i s = takeStrobe s := by
  cases i with
  | reset => exact absurd rfl hreset
  | wrOther a d =>
    have ha : a ≠ 0x4017#16 := fun h => h4017 d (by rw [h])
    rw [react, see4017_of_ne ha]
  | _ => rfl

/-- The reaction to RESET, with no strobe to take (70_reset_and_hazards.md R261). -/
theorem react_reset {s : State} (h : s.frameIrqClear = false) : react .reset s = resetFrame s :=
  takeStrobe_of_not_raised (s := resetFrame s) h

/-- The reaction to a $4017 write, with no strobe to take (60_exceptions.md R240). -/
theorem react_wrOther_4017 (d : Byte) {s : State} (h : s.frameIrqClear = false) :
    react (.wrOther 0x4017 d) s =
      { s with frame := s.frame.write4017 d, stream := issueAll (strobesOf4017 d) ++ s.stream } :=
  takeStrobe_of_not_raised (s := see4017 0x4017 d s) h

/-- Settles O7: outside RESET and a $4017 write the reaction is `takeStrobe`, by its two cases; RESET resets the frame
sequencer and no strobe is left to take. -/
theorem environmentReactsOnlyAsItsRulesSay : Obligations.EnvironmentReactsOnlyAsItsRulesSay := by
  unfold Obligations.EnvironmentReactsOnlyAsItsRulesSay
  intro i s
  refine ⟨fun hreset h4017 hstrobe => ?_, fun hreset h4017 hstrobe => ?_, react_reset⟩
  · rw [react_eq_takeStrobe hreset h4017, takeStrobe_of_not_raised hstrobe]
  · rw [react_eq_takeStrobe hreset h4017, takeStrobe_of_raised hstrobe]

/-- The frame sequencer after a $4017 write, by arithmetic (60_exceptions.md R240). -/
theorem FrameSequencer.write4017_eq (d : Byte) (f : FrameSequencer) :
    f.write4017 d =
      { mode := bit d 7, inhibit := bit d 6, count := 0, irq := if bit d 6 then false else f.irq } := by
  simp only [FrameSequencer.write4017, bitOf_eq_bit]
  rfl

/-- The stream after a $4017 write: with bit 7 a QF and an HF come next (60_exceptions.md R240). -/
theorem issueAll_strobesOf4017 (d : Byte) (rest : List Event) :
    issueAll (strobesOf4017 d) ++ rest =
      if bit d 7 then Event.op 0x6000000#28 :: Event.op 0x8000000#28 :: rest else rest := by
  rw [strobesOf4017, bitOf_eq_bit, ← encode_qf, ← encode_hf]
  split
  · rfl
  · rfl

/-- Settles O8: the frame sequencer's new fields and the issued strobes by arithmetic, with no strobe to take. -/
theorem write4017SetsTheFrameSequencer : Obligations.Write4017SetsTheFrameSequencer := by
  unfold Obligations.Write4017SetsTheFrameSequencer
  intro d s hstrobe
  rw [react_wrOther_4017 d hstrobe, FrameSequencer.write4017_eq, issueAll_strobesOf4017]

/-! ### Events that are no operation -/

/-- Settles O9: each event is one update of the state, and the written memory is read back by the laws of the memory. -/
theorem inputEventsChangeOnlyTheirInput : Obligations.InputEventsChangeOnlyTheirInput := by
  unfold Obligations.InputEventsChangeOnlyTheirInput
  intro s rest
  refine ⟨step_idle, fun a b hstream => ?_, fun _ => step_openBus⟩
  exact ⟨_, step_hostWrite hstream, rfl, Memory.read_write_same s.mem a.toNat b,
    fun x hx => Memory.read_write_other s.mem a.toNat x b hx⟩

/-! ### CLOCK -/

/-- A step of CLOCK k+1: the frame step, then the strobes, the CYCLE and CLOCK k stand at the head of the stream
(60_exceptions.md R243). -/
theorem step_clock_succ {s : State} {k : Nat} {rest : List Event} (h : s.stream = .clock (k + 1) :: rest) :
    step s = .next { s with
      frame := s.frame.step s.cfg
      stream := issueAll (s.frame.strobes s.cfg) ++ Event.op (encode .cycle) :: Event.clock k :: rest } :=
  step_clock h

/-- The counts at which a table issues a QF. -/
def qfCounts (table : FrameTable) : List Nat := (table.steps.filter (·.qf)).map (·.count)

/-- The counts at which a table issues an HF. -/
def hfCounts (table : FrameTable) : List Nat := (table.steps.filter (·.hf)).map (·.count)

/-- The table issues a QF alone at the counts `qfs`, a QF and then an HF at the counts `both`, and wraps at `wrap`
(60_exceptions.md R241). -/
structure TableIssues (table : FrameTable) (qfs both : List Nat) (wrap : Nat) : Prop where
  qf : (qfCounts table).Perm (qfs ++ both)
  hf : hfCounts table = both
  disjoint : ∀ c ∈ qfs, c ∉ both
  wrap : table.wrap = wrap

/-- Some step at the count `c` has the flag exactly when `c` is among the counts of the steps that have it. -/
theorem any_at_count_iff (flag : FrameStep → Bool) (c : Nat) (steps : List FrameStep) :
    (steps.filter (fun x => x.count == c)).any flag = true ↔ c ∈ (steps.filter flag).map (·.count) := by
  simp only [List.any_eq_true, List.mem_filter, List.mem_map, beq_iff_eq]
  exact exists_congr fun x => by tauto

/-- The strobes of a table at a count, by membership in its two lists of counts (60_exceptions.md R241). -/
theorem strobesAt_eq_of_counts (table : FrameTable) (c : Nat) :
    strobesAt table c =
      (if c ∈ qfCounts table then [.qf] else []) ++ (if c ∈ hfCounts table then [.hf] else []) :=
  congrArg₂ (· ++ ·) (if_congr (any_at_count_iff _ c table.steps) rfl rfl)
    (if_congr (any_at_count_iff _ c table.steps) rfl rfl)

/-- The strobes of a table whose counts are listed. -/
theorem TableIssues.strobesAt_eq {table : FrameTable} {qfs both : List Nat} {wrap : Nat}
    (h : TableIssues table qfs both wrap) (c : Nat) :
    strobesAt table c = if c ∈ qfs then [.qf] else if c ∈ both then [.qf, .hf] else [] := by
  rw [strobesAt_eq_of_counts, h.hf]
  simp only [h.qf.mem_iff, List.mem_append]
  by_cases hqf : c ∈ qfs
  · simp [hqf, h.disjoint c hqf]
  · by_cases hboth : c ∈ both <;> simp [hqf, hboth]

/-- Below the width of the counter, the next count is one more (60_exceptions.md R241). -/
theorem FrameSequencer.nextCount_eq {f : FrameSequencer} {c : Nat} (hc : c = f.count.toNat + 1) :
    f.nextCount = BitVec.ofNat 16 c := by
  rw [hc, BitVec.ofNat_add, BitVec.ofNat_toNat, BitVec.setWidth_eq]
  rfl

theorem FrameSequencer.nextCount_toNat {f : FrameSequencer} {c : Nat} (hc : c = f.count.toNat + 1)
    (hlt : f.count.toNat < 65535) : f.nextCount.toNat = c := by
  rw [FrameSequencer.nextCount_eq hc, BitVec.toNat_ofNat, Nat.mod_eq_of_lt (by omega)]

/-- One frame step at the count `c` it reaches (60_exceptions.md R241, R242). -/
theorem FrameSequencer.step_eq {cfg : Config} {f : FrameSequencer} {c : Nat} (hc : c = f.count.toNat + 1)
    (hlt : f.count.toNat < 65535) :
    f.step cfg = { f with
      count := if c = (frameTable cfg f.mode).wrap then 0 else BitVec.ofNat 16 c
      irq := if f.mode = false ∧ f.inhibit = false ∧ c ∈ irqWindow cfg.region then true else f.irq } := by
  rw [FrameSequencer.step, FrameSequencer.irqStep, FrameSequencer.nextCount_toNat hc hlt, FrameSequencer.nextCount_eq hc]
  rfl

/-- The NESDev tables by REGION and mode (60_exceptions.md R241). -/
theorem frameTable_of_nesdev {cfg : Config} (h : cfg.frameSchedule = .nesdev) (fiveStep : Bool) :
    frameTable cfg fiveStep = if fiveStep then nesdevFiveStep cfg.region else nesdevFourStep cfg.region := by
  rw [frameTable, h]

/-- Settles O10: CLOCK is one frame step at count `c`; the NESDev table of each REGION and mode issues the listed strobes
and wraps at the listed count. -/
theorem clockRunsFrameStepThenCycle : Obligations.ClockRunsFrameStepThenCycle := by
  unfold Obligations.ClockRunsFrameStepThenCycle
  intro s k c wrap qfs both window rest
  refine ⟨step_clock, fun hstream hsched hc hlt hcounts hwindow => ?_⟩
  have htable : TableIssues (frameTable s.cfg s.frame.mode) qfs both wrap := by
    rw [frameTable_of_nesdev hsched]
    generalize s.cfg.region = region, s.frame.mode = mode at hcounts ⊢
    cases region <;> cases mode <;> cases hcounts <;> exact ⟨by decide, by decide, by decide, rfl⟩
  have hirq : window = irqWindow s.cfg.region := by
    rw [hwindow]
    cases s.cfg.region <;> rfl
  have hstrobes : issueAll (s.frame.strobes s.cfg) =
      if c ∈ qfs then [Event.op 0x6000000#28]
      else if c ∈ both then [Event.op 0x6000000#28, Event.op 0x8000000#28]
      else [] := by
    rw [FrameSequencer.strobes, FrameSequencer.nextCount_toNat hc hlt, htable.strobesAt_eq, ← encode_qf, ← encode_hf]
    split_ifs <;> rfl
  rw [step_clock_succ hstream, FrameSequencer.step_eq hc hlt, htable.wrap, hstrobes, encode_cycle, hirq]

end Sys2Proof.Machine
end

section
/-! The ranges of the published outputs and of the mixer for all outputs in range (10_state.md R17, 60_exceptions.md
R244). -/

namespace Sys2Proof.Machine

/-- Settles O25: each raw output is in its range, and the gate only lowers it. -/
theorem outputsStayInRange : Obligations.OutputsStayInRange :=
  outputs_le

/-- Settles O27: each part of the mixer is monotone in its inputs, so between 0 and its value at the largest inputs; those
two values add up to at most 1. -/
theorem mixerStaysInUnitRange : Obligations.MixerStaysInUnitRange := by
  unfold Obligations.MixerStaysInUnitRange
  intro p1 p2 t n d hp1 hp2 ht hn hd
  obtain ⟨hpulse, hpulse'⟩ := mixPulse_range hp1 hp2
  obtain ⟨htnd, htnd'⟩ := mixTnd_range ht hn hd
  refine ⟨⟨add_nonneg hpulse htnd, (add_le_add hpulse' htnd').trans mix_largest_le_one⟩, ?_⟩
  rintro rfl rfl rfl rfl rfl
  simp [mixPulse, mixTnd]

end Sys2Proof.Machine
end
